-- ==== Sys2Proof/Word.lean ====
section
/-! DEFINITION. The word types of the OLED framebuffer_controller: the widths of spec/10_state.md and spec/30_encoding.md. -/

namespace Sys2Proof

/-- One byte: a frame-store entry (R30), a controller command or data byte (R64). -/
abbrev Byte := BitVec 8

/-- COORD_W (R10, D5): the width of a coordinate.  R80 and R84 fix it at its default. -/
abbrev coordW : Nat := 32

/-- DLY_MS_W (R10, D12): the width of the delay-request value.  R27 and R38 fix it at its default. -/
abbrev dlyMsW : Nat := 16

@[simp] theorem coordW_eq : coordW = 32 := rfl

@[simp] theorem dlyMsW_eq : dlyMsW = 16 := rfl

/-- A coordinate, two's-complement signed, COORD_W bits (R80, R84). -/
abbrev Coord := BitVec coordW

/-- A gray level, 0 to 15 (R85). -/
abbrev Gray := BitVec 4

/-- The host command word `cmd_word` (R80). -/
abbrev HostWord := BitVec 72

/-- An operation code, OP (R81). -/
abbrev OpCode := BitVec 2

/-- A frame-store address `(b, i)`: bit 13 selects the buffer, bits 12..0 the entry (R60). -/
abbrev FrameAddr := BitVec 14

/-- An entry index of one buffer, 0 to 8191 (R61). -/
abbrev EntryIndex := BitVec 13

/-- A delay request value in milliseconds (`dly_ms`, DLY_MS_W bits, R10). -/
abbrev Millis := BitVec dlyMsW

end Sys2Proof
end

