-- ==== Sys2Proof/Syntax.lean ====
section
/-! DEFINITION. Syntax: the 20 rows of spec/opcode_table.json as one inductive, the 16 controller command names, and the
sequence steps of spec/30_encoding.md R90. -/

namespace Sys2Proof

/-- The instructions of spec/opcode_table.json.  The first four are the host's commands (R81), one 72-bit word each.  The other
sixteen are the commands of the controller's byte stream (R89): a command byte sent under DC = 0 with its argument bytes, sent
under DC = 1 (R88), as fields.  The payload of Write RAM is data that follows the command, not an argument (R182). -/
inductive Instr where
  /-- R103: set one pixel of the back buffer. -/
  | setpx (x y : Coord) (gray : Gray)
  /-- R104: fill the back buffer with one gray level. -/
  | clear (gray : Gray)
  /-- R123: reset and program the controller, send the first frame, turn the display on. -/
  | init
  /-- R140: send the back buffer to the controller and make it the front buffer. -/
  | flush
  /-- R181: 0x15, the column-address window (first column, last column). -/
  | columnAddress (first last : Byte)
  /-- R182: 0x5C, the data bytes that follow go to the controller's RAM. -/
  | writeRam
  /-- R183: 0x75, the row-address window (first row, last row). -/
  | rowAddress (first last : Byte)
  /-- R184: 0xCA, how many display rows are scanned. -/
  | muxRatio (ratio : Byte)
  /-- R185: 0xA0, the scan direction and orientation mapping. -/
  | remap (a b : Byte)
  /-- R186: 0xA1. -/
  | startLine (line : Byte)
  /-- R187: 0xA2. -/
  | offsetLine (line : Byte)
  /-- R188: 0xA4. -/
  | allPixelsOff
  /-- R189: 0xA5. -/
  | allPixelsOn
  /-- R190: 0xA6. -/
  | normalMode
  /-- R191: 0xA7. -/
  | invertMode
  /-- R192: 0xAE. -/
  | displayOff
  /-- R193: 0xAF. -/
  | displayOn
  /-- R194: 0xB3, clock frequency and divisor. -/
  | clockDivider (arg : Byte)
  /-- R195: 0xB4, the first enhancement pair. -/
  | enhancementA (a b : Byte)
  /-- R196: 0xD1, the second enhancement pair. -/
  | enhancementB (a b : Byte)
deriving DecidableEq, Repr

/-- The names of the sixteen controller command bytes (R89). -/
inductive CtrlCmd where
  | columnAddress | writeRam | rowAddress | muxRatio | remap | startLine | offsetLine | allPixelsOff
  | allPixelsOn | normalMode | invertMode | displayOff | displayOn | clockDivider | enhancementA | enhancementB
deriving DecidableEq, Repr

/-- One byte as the controller receives it: the DC level it came under (`true` = data) and its value (R87, R88). -/
structure BusByte where
  dc   : Bool
  byte : Byte
deriving DecidableEq, Repr

/-- A step of the INIT or the FLUSH sequence (R90). -/
inductive SeqStep where
  /-- `RST l`: drive the controller's reset line. -/
  | rst (level : Bool)
  /-- `DLY n`: one delay request of `n` milliseconds. -/
  | dly (ms : Millis)
  /-- `CMD c`: a command byte under DC = 0. -/
  | cmd (c : Byte)
  /-- `DAT [d...]`: argument bytes under DC = 1. -/
  | dat (ds : List Byte)
  /-- `DC l`: drive the data/command line. -/
  | dc (level : Bool)
  /-- `SWAP`: exchange front and back. -/
  | swap
  /-- `PAYLOAD`: the 8192 entries of the front buffer. -/
  | payload
  /-- `DONE`: leave the sequence with success. -/
  | done
deriving DecidableEq, Repr

end Sys2Proof
end

