-- ==== Sys2Proof/Config.lean ====
section
/-! DEFINITION. Config: the named constants of spec/00_scope.md R6 to R10, what the environment brings to one rising edge, the
controller's registers, and the free values (opaque constants, no body). -/

namespace Sys2Proof

/-- Entries of one buffer, BUF_ENTRIES = 128 x 64 (R6: fixed, no parameter). -/
abbrev bufEntries : Nat := 8192

/-- Entries of the whole frame store (R60). -/
abbrev frameEntries : Nat := 16384

/-- The configuration constants of one block (R7 to R10), with the spec's defaults.  Decision D34 asks for every literal as a named
constant so that a claim can hold at every value; `State.cfg` holds them and no step changes them (log entry 1). -/
structure Config where
  /-- COL_START (R7) -/
  colStart : Byte := 0x1C#8
  /-- COL_END (R7) -/
  colEnd : Byte := 0x5B#8
  /-- ROW_START (R7) -/
  rowStart : Byte := 0x00#8
  /-- ROW_END (R7) -/
  rowEnd : Byte := 0x3F#8
  /-- T_RST_LOW (R8) -/
  tRstLow : Millis := 10#16
  /-- T_RST_HOLD (R8) -/
  tRstHold : Millis := 300#16
  /-- T_ON_SETTLE (R8) -/
  tOnSettle : Millis := 200#16
  /-- MUX_ARG = HEIGHT - 1 (R9) -/
  muxArg : Byte := 0x3F#8
  /-- REMAP_ARGS, first byte (R9) -/
  remapA : Byte := 0x16#8
  /-- REMAP_ARGS, second byte (R9) -/
  remapB : Byte := 0x11#8
  /-- ENH_A_ARGS, first byte (R9) -/
  enhA1 : Byte := 0xA0#8
  /-- ENH_A_ARGS, second byte (R9) -/
  enhA2 : Byte := 0xFD#8
  /-- ENH_B_ARGS, first byte (R9) -/
  enhB1 : Byte := 0x82#8
  /-- ENH_B_ARGS, second byte (R9) -/
  enhB2 : Byte := 0x20#8
  /-- CLKDIV_ARG (R10, D14).  PRESUMED (log entry 21): the default is general knowledge, not the source's. -/
  clkDivArg : Byte := 0x91#8
  /-- START_LINE_ARG (R10, D15) -/
  startLineArg : Byte := 0x00#8
  /-- OFFSET_ARG (R10, D15) -/
  offsetArg : Byte := 0x00#8
deriving DecidableEq, Repr

/-- The defaults of R7 to R10. -/
def Config.default : Config := {}

/-- What the world brings to one rising edge of `clk`: the levels on the block's input ports (R20, R21, R23, R25, R27) and the
choices the spec leaves open at an edge. -/
structure Edge where
  /-- `rst_n`: `false` performs the reset (R20, R230). -/
  rstN : Bool
  /-- `cmd_valid` (R21) -/
  cmdValid : Bool
  /-- `cmd_word` (R21) -/
  cmdWord : HostWord
  /-- `rsp_ready` (R23) -/
  rspReady : Bool
  /-- `tx_ready` (R25) -/
  txReady : Bool
  /-- `tx_resp_valid` (R25) -/
  txRespValid : Bool
  /-- `tx_resp_err` (R25) -/
  txRespErr : Bool
  /-- `dly_done` (R27) -/
  dlyDone : Bool
  /-- How much of its own work the block gets done at this edge: entries of a CLEAR or of the reset fill, or (if not 0) the start
  of the next sequence step.  R240: a step takes an unknown, finite number of cycles; 0 spends the edge, as long as
  `Config.maxStall` allows. -/
  work : Nat
  /-- R162: the block may leave `tx_valid` = 0 for any number of cycles before it offers the next byte; `Config.maxStall` bounds it. -/
  gap : Bool
  /-- R169: if a write fails at this edge, the controller received a prefix of its bytes, from none to all: this many. -/
  received : Nat
deriving DecidableEq, Repr, Inhabited

/-- The display mode the last mode command named (R188 to R191). -/
inductive DisplayMode where
  | allPixelsOff | allPixelsOn | normal | invert
deriving DecidableEq, Repr, Inhabited

/-- The registers the block programs in the controller chip (R40).  They are not block state and the block never reads them; they
are what the sixteen controller commands act on.  The bytes are opaque (N10, I17). -/
structure CtrlRegs where
  /-- clock divider, 0xB3 -/
  clkDiv : Byte
  /-- mux ratio, 0xCA -/
  mux : Byte
  /-- column window, 0x15 -/
  colStart : Byte
  colEnd : Byte
  /-- row window, 0x75 -/
  rowStart : Byte
  rowEnd : Byte
  /-- start line, 0xA1 -/
  startLine : Byte
  /-- offset, 0xA2 -/
  offset : Byte
  /-- remap, 0xA0 -/
  remapA : Byte
  remapB : Byte
  /-- display mode, 0xA4 to 0xA7 -/
  mode : DisplayMode
  /-- display on/off, 0xAE and 0xAF -/
  displayOn : Bool
  /-- enhancement A, 0xB4 -/
  enhA1 : Byte
  enhA2 : Byte
  /-- enhancement B, 0xD1 -/
  enhB1 : Byte
  enhB2 : Byte
  /-- The last command was Write RAM (0x5C): data bytes go to the controller's RAM (R63, R182). -/
  ramOpen : Bool
  /-- A Write RAM has come and no data byte since: the next data byte begins a RAM write. -/
  ramFresh : Bool
  /-- The data bytes of the last RAM write that brought any, first byte first: the frame at the controller (R144).  Where in the
  window each lands is not in the source (N9, I16). -/
  ram : List Byte
deriving DecidableEq, Repr, Inhabited

/-- FREE VALUE (log entry 2): what the world brings to an edge that `State.coming` does not say. -/
opaque Config.freeEdge : Nat → Edge

/-- FREE VALUE (log entry 18): the block may spend this many edges in a row, and one more, on its own work without getting on with
it.  R240: the number of cycles of a step is unknown and finite. -/
opaque Config.maxStall : Nat

/-- FREE VALUE (log entry 3): the controller's registers where the spec leaves them unknown. -/
opaque Config.freeCtrl : Nat → CtrlRegs

end Sys2Proof
end

