-- ==== Sys2Proof/Machine/State.lean ====
section
/-! DEFINITION. State: all the state of spec/10_state.md (R29 to R41), the controller's registers (R40), the trace (R13) and the
model's own fields; State.reset; one setter per part. -/

namespace Sys2Proof.Machine

/-- The frame store (R60): `(address, entry)` pairs in one canonical form (`Memory.wf`).  An unlisted address reads as 0x00, the
reset contents (R33). -/
abbrev Memory := List Host.Cell

/-- PHASE (R35). -/
inductive Phase where
  | idle | clearing | initSeq | flushSeq | respond | filling
deriving DecidableEq, Repr

/-- The trace events of R13. -/
inductive Event where
  /-- `Cmd(word)`: the host hands over a command. -/
  | cmd (word : HostWord)
  /-- `Rsp(op, err)`: the host takes a response. -/
  | rsp (op : OpCode) (err : Bool)
  /-- `Rst(level)`: the reset line changes level. -/
  | rst (level : Bool)
  /-- `Dc(level)`: the DC line changes level. -/
  | dc (level : Bool)
  /-- `Wr(dc, bytes) -> ok | err`: one transport write. -/
  | wr (dc : Bool) (bytes : List Byte) (ok : Bool)
  /-- `Dly(n)`: one delay request, finished. -/
  | dly (ms : Millis)
  /-- `Swap`: FRONT is toggled by the SWAP step. -/
  | swap
deriving DecidableEq, Repr

/-- RSP_OP and RSP_ERR (R35); `err` is `true` for TRANSPORT_ERROR (R86, R200). -/
structure Response where
  op  : OpCode
  err : Bool
deriving DecidableEq, Repr

/-- WR_ACTIVE, WR_DC, WR_LEN and WR_POS (R38), and the model's own bit `gap`: in this cycle the block leaves `tx_valid` = 0 before
it offers the next byte (R162; log entry 26). -/
structure Writer where
  active : Bool
  dc     : Bool
  len    : BitVec 14
  pos    : BitVec 14
  gap    : Bool
deriving DecidableEq, Repr

/-- DLY_ACTIVE and DLY_VAL (R38). -/
structure Delay where
  active : Bool
  ms     : Millis
deriving DecidableEq, Repr

/-- CUR_OP, CUR_X, CUR_Y and CUR_GRAY (R38). -/
structure Latched where
  op   : OpCode
  x    : Coord
  y    : Coord
  gray : Gray
deriving DecidableEq, Repr

/-- Why the machine stops with a fault. -/
inductive Fault where
  /-- The sequencer of INIT_SEQ or FLUSH_SEQ finds no step at STEP.  R37: STEP never passes the sequence's last step, so no state
  that a run reaches raises it (log entry 25).  SAFE: the model stops where the spec gives nothing. -/
  | noSuchStep (step : BitVec 6)
deriving DecidableEq, Repr

/-- Why an instruction has no meaning. -/
inductive Refusal where
  /-- `exec`'s arm has no meaning yet.  SAFE. -/
  | notModelled (mnemonic : String)
  /-- The controller's stream holds a byte under DC = 0 that is none of the sixteen commands of R89; the block never sends one
  (R180), and the spec gives it no effect.  SAFE. -/
  | notACommandByte (b : Byte)
deriving DecidableEq, Repr

/-- The state of the block (R41), of the controller's registers (R40), and of the world as far as the model holds it. -/
structure State where
  /-- The configuration constants (R7 to R10); no step writes them. -/
  cfg : Config
  /-- BUF[0] and BUF[1] (R30) in the frame-store address space (R60). -/
  mem : Memory
  /-- FRONT (R29) -/
  front : BitVec 1
  /-- INIT_DONE (R31) -/
  initDone : Bool
  /-- PHASE (R35) -/
  phase : Phase
  /-- STEP (R37) -/
  stepPtr : BitVec 6
  /-- RSP_OP, RSP_ERR (R35) -/
  rsp : Response
  /-- RST_LVL, drives `rst_o` (R36) -/
  rstLvl : Bool
  /-- DC_LVL, drives `dc_o` (R36) -/
  dcLvl : Bool
  /-- the byte_stream_serializer (R38) -/
  wr : Writer
  /-- the delay port (R38) -/
  dly : Delay
  /-- CLR_IDX (R38) -/
  clrIdx : BitVec 14
  /-- the command being executed (R38) -/
  cur : Latched
  /-- the controller's registers (R40), outside the block -/
  ctrl : CtrlRegs
  /-- bytes the controller has received and not yet acted on, oldest first (R63, R88) -/
  inbox : List BusByte
  /-- the model's own: what the world brings to the coming rising edges; where it is empty, `Config.freeEdge` says -/
  coming : List Edge
  /-- the model's own: counts steps; the free values are read at it -/
  tick : Nat
  /-- the model's own: edges the block has spent in a row on its own work without getting on with it (log entry 18) -/
  stalled : Nat
  /-- the observation of R13, oldest event first -/
  trace : List Event
deriving DecidableEq, Repr

/-- The controller's registers before anything programs them.  DESIGN CHOICE (log entry 5): the spec gives no value. -/
def ctrlAtPowerOn : CtrlRegs where
  clkDiv := 0#8
  mux := 0#8
  colStart := 0#8
  colEnd := 0#8
  rowStart := 0#8
  rowEnd := 0#8
  startLine := 0#8
  offset := 0#8
  remapA := 0#8
  remapB := 0#8
  mode := .normal
  displayOn := false
  enhA1 := 0#8
  enhA2 := 0#8
  enhB1 := 0#8
  enhB2 := 0#8
  ramOpen := false
  ramFresh := false
  ram := []

/-- The machine right after reset (R230, R231): `rst_n` has just returned to 1, so PHASE is FILLING and the fill has done nothing
yet; every entry reads 0x00 (R33; log entry 13).  The model's own fields: log entry 12. -/
def State.reset : State where
  cfg := Config.default
  mem := []
  front := 0#1
  initDone := false
  phase := .filling
  stepPtr := 0#6
  rsp := ⟨0b00#2, false⟩
  rstLvl := true
  dcLvl := false
  wr := ⟨false, false, 0#14, 0#14, false⟩
  dly := ⟨false, 0#16⟩
  clrIdx := 0#14
  cur := ⟨0b00#2, 0#32, 0#32, 0#4⟩
  ctrl := ctrlAtPowerOn
  inbox := []
  coming := []
  tick := 0
  stalled := 0
  trace := []

/-! Setters: one part written, the rest kept. -/

def State.setMem (s : State) (v : Memory) : State := { s with mem := v }
def State.setFront (s : State) (v : BitVec 1) : State := { s with front := v }
def State.setInitDone (s : State) (v : Bool) : State := { s with initDone := v }
def State.setPhase (s : State) (v : Phase) : State := { s with phase := v }
def State.setStepPtr (s : State) (v : BitVec 6) : State := { s with stepPtr := v }
def State.setRsp (s : State) (v : Response) : State := { s with rsp := v }
def State.setRstLvl (s : State) (v : Bool) : State := { s with rstLvl := v }
def State.setDcLvl (s : State) (v : Bool) : State := { s with dcLvl := v }
def State.setWr (s : State) (v : Writer) : State := { s with wr := v }
def State.setDly (s : State) (v : Delay) : State := { s with dly := v }
def State.setClrIdx (s : State) (v : BitVec 14) : State := { s with clrIdx := v }
def State.setCur (s : State) (v : Latched) : State := { s with cur := v }
def State.setCtrl (s : State) (v : CtrlRegs) : State := { s with ctrl := v }
def State.setInbox (s : State) (v : List BusByte) : State := { s with inbox := v }
def State.setComing (s : State) (v : List Edge) : State := { s with coming := v }
def State.setTick (s : State) (v : Nat) : State := { s with tick := v }
def State.setStalled (s : State) (v : Nat) : State := { s with stalled := v }
/-- Add one event to the trace (R13). -/
def State.log (s : State) (e : Event) : State := { s with trace := s.trace ++ [e] }

end Sys2Proof.Machine
end

