-- ==== Sys2Proof/Machine/Flags.lean ====
section
/-! DEFINITION. Flags: the status outputs and the handshake flags, as functions of the registers (spec/10_state.md R22 to R24,
R27; spec/43_byte_stream_serializer.md R162). -/

namespace Sys2Proof.Machine

/-- R22: `cmd_ready` outside reset. -/
def State.cmdReady (s : State) : Bool := s.phase == .idle

/-- R23: `rsp_valid` outside reset. -/
def State.rspValid (s : State) : Bool := s.phase == .respond

/-- R24: `ready_o`. -/
def State.ready (s : State) : Bool := s.initDone

/-- R24: `busy_o`. -/
def State.busy (s : State) : Bool := s.phase != .idle

/-- R160: bytes of the write in progress have not been accepted yet. -/
def Writer.unsent (w : Writer) : Bool := w.active && decide (w.pos < w.len)

/-- R162: a byte is on offer, `tx_valid` outside reset. -/
def Writer.offering (w : Writer) : Bool := w.unsent && !w.gap

/-- R162: the byte on offer is the write's last, `tx_last`. -/
def Writer.atLast (w : Writer) : Bool := decide (w.pos.toNat + 1 = w.len.toNat)

end Sys2Proof.Machine
end

