-- ==== Sys2Proof/Machine/Operands.lean ====
section
/-! DEFINITION. Operands: coordinates, entry index, entry value and buffer selection (spec/40_frame_store.md R100 to R102,
spec/20_memory.md R60, R61). -/

namespace Sys2Proof.Machine

/-- R102: `0 <=s x <s 128` and `0 <=s y <s 64`, as 32-bit two's-complement compares. -/
def inRange (x y : Coord) : Bool :=
  (0#32).sle x && x.slt 128#32 && (0#32).sle y && y.slt 64#32

/-- R61: the entry index `y*128 + x`, which for a pixel in range is the bits of y above the bits of x (6 and 7 of them). -/
def entryIndex (x y : Coord) : EntryIndex := y.extractLsb' 0 6 ++ x.extractLsb' 0 7

/-- R100: the entry of a gray level holds it in both nibbles. -/
def entryOf (g : Gray) : Byte := g ++ g

/-- R60: the address of entry `i` of buffer `b`. -/
def frameAddr (b : BitVec 1) (i : EntryIndex) : FrameAddr := b ++ i

/-- R101: the back buffer, computed from FRONT at each access. -/
def State.back (s : State) : BitVec 1 := s.front ^^^ 1#1

end Sys2Proof.Machine
end

