-- ==== Sys2Proof/Machine/Ops.lean ====
section
/-! DEFINITION. Ops: the operations the meanings share.  The frame store (spec/20_memory.md R60), the two lines
(spec/30_encoding.md R90 to R92), the swap (R105), the response (R23, R86), the transport error and the return from it
(spec/60_exceptions.md R201, R210), what the controller receives (R169), and the register reset (R230, R231). -/

namespace Sys2Proof.Machine

/-! The frame store. -/

/-- The entry at a key; an unlisted key reads as 0x00 (R33). -/
def Memory.find : Memory → Nat → Byte
  | [], _ => 0x00#8
  | (k, v) :: rest, a => if k = a then v else Memory.find rest a

/-- Write the entry at a key, keeping the keys rising and no 0x00 entry listed. -/
def Memory.put : Memory → Nat → Byte → Memory
  | [], a, v => if v = 0x00#8 then [] else [(a, v)]
  | (k, w) :: rest, a, v =>
    if k < a then (k, w) :: Memory.put rest a v
    else if k = a then (if v = 0x00#8 then rest else (a, v) :: rest)
    else (if v = 0x00#8 then (k, w) :: rest else (a, v) :: (k, w) :: rest)

/-- Every key from `lo` on, strictly rising and inside the frame store, and no entry equal to what an unlisted key reads as. -/
def Memory.wfFrom : Nat → Memory → Bool
  | _, [] => true
  | lo, (k, v) :: rest => decide (lo ≤ k) && decide (k < frameEntries) && (v != 0x00#8) && Memory.wfFrom (k + 1) rest

/-- The canonical form of the frame store. -/
def Memory.wf (m : Memory) : Bool := Memory.wfFrom 0 m

/-- MemRead(addr, 1) (spec/00_scope.md section 6). -/
def Memory.read (m : Memory) (a : FrameAddr) : Byte := Memory.find m a.toNat

/-- MemWrite(addr, 1, v) (spec/00_scope.md section 6). -/
def Memory.write (m : Memory) (a : FrameAddr) (v : Byte) : Memory := Memory.put m a.toNat v

/-- Write `v` to `n` entries from `a` on. -/
def Memory.fill (m : Memory) (a : FrameAddr) (v : Byte) : Nat → Memory
  | 0 => m
  | n + 1 => Memory.fill (Memory.write m a v) (a + 1#14) v n

/-- BUF[b][i] (spec/00_scope.md section 6). -/
def State.entry (s : State) (b : BitVec 1) (i : EntryIndex) : Byte := s.mem.read (frameAddr b i)

/-! Lines. -/

/-- R90 to R92: `SetLine(DC, l)`.  A line that keeps its level makes no event (R13). -/
def State.setDcLine (s : State) (l : Bool) : State :=
  if s.dcLvl = l then s else (s.setDcLvl l).log (.dc l)

/-- The controller's registers become unknown: a FREE VALUE (log entry 3).  Its RAM keeps its frame, because no data byte after
Write RAM has come (R63, R144). -/
def State.regsUnknown (s : State) : State :=
  s.setCtrl { Config.freeCtrl s.tick with ramOpen := false, ram := s.ctrl.ram }

/-- The controller's registers and its RAM become unknown: a FREE VALUE (log entry 3).  What it had half received is void. -/
def State.ctrlUnknown (s : State) : State := (s.setCtrl (Config.freeCtrl s.tick)).setInbox []

/-- R90: `SetLine(RST, l)`.  A line that keeps its level makes no event (R13).  Low asserts reset at the controller (R26); the spec
does not say what that leaves in its registers (log entry 6). -/
def State.setRstLine (s : State) (l : Bool) : State :=
  if s.rstLvl = l then s
  else if l then (s.setRstLvl true).log (.rst true)
  else ((s.setRstLvl false).log (.rst false)).ctrlUnknown

/-! Buffers. -/

/-- R105: `FRONT <- FRONT xor 1`. -/
def State.swapBuffers (s : State) : State := (s.setFront (s.front ^^^ 1#1)).log .swap

/-! Response, error and return. -/

/-- R23, R86: `Respond(op, err)`. -/
def State.respond (s : State) (op : OpCode) (err : Bool) : State := (s.setRsp ⟨op, err⟩).setPhase .respond

/-- R201: `raise TransportError()`, the block's one error.  STEP keeps the failing step's index.  DESIGN CHOICE (log entry 27): it
does not write FRONT, so an INIT that fails at step 33, after its SWAP, leaves FRONT toggled (R201, R202, V-INIT-F33), although
R203's INIT column names only step 32. -/
def State.raiseTransportError (s : State) : State :=
  (s.setWr { s.wr with active := false }).respond s.cur.op true

/-- R23, R210: the host takes the response; this is also the return from the error (log entry 15). -/
def State.takeResponse (s : State) : State := (s.log (.rsp s.rsp.op s.rsp.err)).setPhase .idle

/-! Sequencer. -/

/-- R37: STEP advances by exactly 1 when a step completes. -/
def State.advance (s : State) : State := s.setStepPtr (s.stepPtr + 1#6)

/-- R160: the start of `Write(dc, bytes)` with `len` bytes; `gap` as R162 allows. -/
def State.startWrite (s : State) (dc : Bool) (len : Nat) (gap : Bool) : State :=
  s.setWr ⟨true, dc, BitVec.ofNat 14 len, 0#14, gap⟩

/-- R120: a delay request begins. -/
def State.startDelay (s : State) (ms : Millis) : State := s.setDly ⟨true, ms⟩

/-! Pace. -/

/-- R240: how much of its own work the block gets done at an edge: what the edge says, but no more than
`Config.maxStall + 1` edges in a row go without any. -/
def State.pace (s : State) (e : Edge) : Nat :=
  if e.work = 0 ∧ Config.maxStall < s.stalled then 1 else e.work

/-- Count an edge on which the block got nothing done; start again from 0 when it did. -/
def State.paced (s : State) (e : Edge) : State := s.setStalled (if s.pace e = 0 then s.stalled + 1 else 0)

/-- R162: the block leaves a gap if the edge says so, but no more than `Config.maxStall + 1` cycles in a row; `k` have
gone. -/
def leavesGap (e : Edge) (k : Nat) : Bool := e.gap && decide (k ≤ Config.maxStall)

/-! The controller's end of the bus. -/

/-- The controller receives bytes under one DC level (R88). -/
def State.deliver (s : State) (dc : Bool) (bytes : List Byte) : State :=
  s.setInbox (s.inbox ++ bytes.map (fun b => ⟨dc, b⟩))

/-! Host side. -/

/-- R22: a host command has its effect only where `cmd_ready` = 1; otherwise it waits and nothing changes (R209; log entry 19). -/
def State.whenReady (s : State) (accepted : State) : Host.Outcome State Fault Refusal :=
  if s.cmdReady then .next accepted else .next s

/-! One rising edge. -/

/-- What the world brings to the coming edge: what `coming` says, else a FREE VALUE (log entry 2). -/
def State.edge (s : State) : Edge :=
  match s.coming with
  | e :: _ => e
  | [] => Config.freeEdge s.tick

/-- The step's own bookkeeping: one more step done. -/
def State.ticked (s : State) : State := s.setTick (s.tick + 1)

/-- The edge is used up. -/
def State.edgeTaken (s : State) : State := s.ticked.setComing s.coming.tail

/-- R206, R230, R231, R232: the registers at an edge with `rst_n` = 0.  The two buffers are zeroed by the fill that follows (R230),
not here.  A write in progress is cut off, and what the controller makes of it is unknown (I4).  Log entries 13 and 16. -/
def State.resetRegisters (s : State) : State :=
  let s1 := if s.wr.active then s.ctrlUnknown else s
  let s2 := s1.setRstLine true
  let s3 := s2.setDcLine false
  { s3 with
    front := 0#1
    initDone := false
    phase := .filling
    stepPtr := 0#6
    rsp := ⟨0b00#2, false⟩
    wr := ⟨false, false, 0#14, 0#14, false⟩
    dly := ⟨false, 0#16⟩
    clrIdx := 0#14
    stalled := 0
    cur := ⟨0b00#2, 0#32, 0#32, 0#4⟩ }

end Sys2Proof.Machine
end

