-- ==== Sys2Proof/Machine/Controller.lean ====
section
/-! DEFINITION. Controller: the sixteen commands of the controller's byte stream (spec/44_controller_command_set.md R181 to R196),
each on the register R40 gives the controller for it.  The bytes are kept as they came (N10, I17). -/

namespace Sys2Proof.Machine

/-- A command other than Write RAM: it writes its register, and data bytes no longer go to the RAM (R63, R88; log entry 24). -/
def State.program (s : State) (r : CtrlRegs) : Host.Outcome State Fault Refusal :=
  .next (s.setCtrl { r with ramOpen := false })

/-- R63, R182: data bytes that are no command's arguments.  After Write RAM they go to the RAM, the first of them beginning a new
frame; otherwise the spec gives them no effect, and the controller's registers become unknown (log entry 7). -/
def State.takeData (s : State) (bytes : List Byte) : State :=
  if s.ctrl.ramOpen then
    s.setCtrl { s.ctrl with ramFresh := false, ram := if s.ctrl.ramFresh then bytes else s.ctrl.ram ++ bytes }
  else s.regsUnknown

/-- R181 -/
def execColumnAddress (first last : Byte) (s : State) : Host.Outcome State Fault Refusal :=
  s.program { s.ctrl with colStart := first, colEnd := last }

/-- R182.  The frame in the RAM is unchanged until a data byte comes (R144). -/
def execWriteRam (s : State) : Host.Outcome State Fault Refusal :=
  .next (s.setCtrl { s.ctrl with ramOpen := true, ramFresh := true })

/-- R183 -/
def execRowAddress (first last : Byte) (s : State) : Host.Outcome State Fault Refusal :=
  s.program { s.ctrl with rowStart := first, rowEnd := last }

/-- R184 -/
def execMuxRatio (ratio : Byte) (s : State) : Host.Outcome State Fault Refusal :=
  s.program { s.ctrl with mux := ratio }

/-- R185 -/
def execRemap (a b : Byte) (s : State) : Host.Outcome State Fault Refusal :=
  s.program { s.ctrl with remapA := a, remapB := b }

/-- R186 -/
def execStartLine (line : Byte) (s : State) : Host.Outcome State Fault Refusal :=
  s.program { s.ctrl with startLine := line }

/-- R187 -/
def execOffsetLine (line : Byte) (s : State) : Host.Outcome State Fault Refusal :=
  s.program { s.ctrl with offset := line }

/-- R188; DEDUCED (log entry 8): the name gives a display mode. -/
def execAllPixelsOff (s : State) : Host.Outcome State Fault Refusal :=
  s.program { s.ctrl with mode := .allPixelsOff }

/-- R189; DEDUCED (log entry 8). -/
def execAllPixelsOn (s : State) : Host.Outcome State Fault Refusal :=
  s.program { s.ctrl with mode := .allPixelsOn }

/-- R190: "normal (non-inverted, non-all-on/off) display mode". -/
def execNormalMode (s : State) : Host.Outcome State Fault Refusal :=
  s.program { s.ctrl with mode := .normal }

/-- R191; DEDUCED (log entry 8). -/
def execInvertMode (s : State) : Host.Outcome State Fault Refusal :=
  s.program { s.ctrl with mode := .invert }

/-- R192 -/
def execDisplayOff (s : State) : Host.Outcome State Fault Refusal :=
  s.program { s.ctrl with displayOn := false }

/-- R193 -/
def execDisplayOn (s : State) : Host.Outcome State Fault Refusal :=
  s.program { s.ctrl with displayOn := true }

/-- R194 -/
def execClockDivider (arg : Byte) (s : State) : Host.Outcome State Fault Refusal :=
  s.program { s.ctrl with clkDiv := arg }

/-- R195 -/
def execEnhancementA (a b : Byte) (s : State) : Host.Outcome State Fault Refusal :=
  s.program { s.ctrl with enhA1 := a, enhA2 := b }

/-- R196 -/
def execEnhancementB (a b : Byte) (s : State) : Host.Outcome State Fault Refusal :=
  s.program { s.ctrl with enhB1 := a, enhB2 := b }

end Sys2Proof.Machine
end

