-- ==== Sys2Proof/Machine/FrameStore.lean ====
section
/-! DEFINITION. FrameStore (packed_nibble_buffer): SETPX, CLEAR and the reset fill (spec/40_frame_store.md R103, R104;
spec/70_reset_and_hazards.md R230). -/

namespace Sys2Proof.Machine

/-- R103: `MemWrite((FRONT xor 1, i), 1, (GRAY, GRAY))` for a pixel in range, nothing otherwise. -/
def State.setPixel (s : State) (x y : Coord) (g : Gray) : State :=
  if inRange x y then s.setMem (s.mem.write (frameAddr s.back (entryIndex x y)) (entryOf g)) else s

/-- R103: SETPX, accepted in every IDLE state.  It latches the fields it reads (R239) and is done at the accepting edge. -/
def execSetpx (x y : Coord) (g : Gray) (s : State) : Host.Outcome State Fault Refusal :=
  s.whenReady (((s.setCur ⟨0b00#2, x, y, g⟩).setPixel x y g).respond 0b00#2 false)

/-- R104: CLEAR, accepted in every IDLE state.  The fill runs in PHASE = CLEARING (`State.clearEdge`).  X and Y are not read, so
CUR_X and CUR_Y stay (R82; log entry 14). -/
def execClear (g : Gray) (s : State) : Host.Outcome State Fault Refusal :=
  s.whenReady (((s.setCur { s.cur with op := 0b01#2, gray := g }).setClrIdx 0#14).setPhase .clearing)

/-- R104: one edge of CLEARING.  The next entries of the back buffer are filled, as many as the edge gets done (R240; the order is
not observable, I9; log entry 18); after the last one the command answers. -/
def State.clearEdge (e : Edge) (s : State) : State :=
  let n := min (s.pace e) (bufEntries - s.clrIdx.toNat)
  let s1 := ((s.paced e).setMem (s.mem.fill (frameAddr s.back 0#13 + s.clrIdx) (entryOf s.cur.gray) n)).setClrIdx (s.clrIdx + BitVec.ofNat 14 n)
  if bufEntries ≤ s.clrIdx.toNat + n then s1.respond 0b01#2 false else s1

/-- R230: one edge of FILLING.  The next entries of the frame store become 0x00, as many as the edge gets done; after the last one
PHASE is IDLE.  CLR_IDX has 14 bits and so ends at 0 (log entry 23). -/
def State.fillEdge (e : Edge) (s : State) : State :=
  let n := min (s.pace e) (frameEntries - s.clrIdx.toNat)
  let s1 := ((s.paced e).setMem (s.mem.fill s.clrIdx 0x00#8 n)).setClrIdx (s.clrIdx + BitVec.ofNat 14 n)
  if frameEntries ≤ s.clrIdx.toNat + n then s1.setPhase .idle else s1

end Sys2Proof.Machine
end

