-- ==== Sys2Proof/Machine/Sequences.lean ====
section
/-! DEFINITION. Sequences: the two step lists (spec/41_register_init_fsm.md R124, spec/42_ram_window_sequencer.md R141), fixed like
a ROM (R78), and what a step's write sends. -/

namespace Sys2Proof

/-- The DC level of a step's write (R90, R147). -/
def SeqStep.writeDc : SeqStep → Bool
  | .cmd _ => false
  | .dat _ => true
  | .payload => true
  | .rst _ => false
  | .dly _ => false
  | .dc _ => false
  | .swap => false
  | .done => false

/-- The number of bytes of a step's write, WR_LEN (R160); 0 for a step that makes no write. -/
def SeqStep.writeLen : SeqStep → Nat
  | .cmd _ => 1
  | .dat ds => ds.length
  | .payload => bufEntries
  | .rst _ => 0
  | .dly _ => 0
  | .dc _ => 0
  | .swap => 0
  | .done => 0

end Sys2Proof

namespace Sys2Proof.Machine

/-- R141: steps 0 to 7 of the FLUSH sequence, without DONE. -/
def frameSteps (c : Config) : List SeqStep :=
  [.cmd 0x15#8, .dat [c.colStart, c.colEnd], .cmd 0x75#8, .dat [c.rowStart, c.rowEnd], .cmd 0x5C#8, .dc true, .swap, .payload]

/-- R141: the FLUSH sequence, steps 0 to 8. -/
def flushSequence (c : Config) : List SeqStep := frameSteps c ++ [.done]

/-- R124, R125: the reset pulse, steps 0 to 4. -/
def resetPulse (c : Config) : List SeqStep :=
  [.rst true, .rst false, .dly c.tRstLow, .rst true, .dly c.tRstHold]

/-- R124, R126: register programming, steps 5 to 24. -/
def registerProgramming (c : Config) : List SeqStep :=
  [.cmd 0xB3#8, .dat [c.clkDivArg], .cmd 0xCA#8, .dat [c.muxArg],
   .cmd 0x15#8, .dat [c.colStart, c.colEnd], .cmd 0x75#8, .dat [c.rowStart, c.rowEnd],
   .cmd 0xA1#8, .dat [c.startLineArg], .cmd 0xA2#8, .dat [c.offsetArg],
   .cmd 0xA0#8, .dat [c.remapA, c.remapB], .cmd 0xA6#8, .cmd 0xAE#8,
   .cmd 0xB4#8, .dat [c.enhA1, c.enhA2], .cmd 0xD1#8, .dat [c.enhB1, c.enhB2]]

/-- R124: the INIT sequence, steps 0 to 35; steps 25 to 32 are the FLUSH sequence's 0 to 7, SWAP included (R127). -/
def initSequence (c : Config) : List SeqStep :=
  resetPulse c ++ registerProgramming c ++ frameSteps c ++ [.cmd 0xAF#8, .dly c.tOnSettle, .done]

/-- The step list PHASE runs; none outside a sequence. -/
def State.sequence (s : State) : List SeqStep :=
  match s.phase with
  | .initSeq => initSequence s.cfg
  | .flushSeq => flushSequence s.cfg
  | .idle => []
  | .clearing => []
  | .respond => []
  | .filling => []

/-- R37: the step STEP points at. -/
def State.currentStep (s : State) : Option SeqStep := s.sequence[s.stepPtr.toNat]?

/-- R147: the payload, BUF[FRONT][0] to BUF[FRONT][8191] in ascending order (R65). -/
def State.payload (s : State) : List Byte :=
  (List.range bufEntries).map fun i => s.entry s.front (BitVec.ofNat 13 i)

/-- The bytes of a step's write (R90). -/
def State.writeBytes (s : State) : SeqStep → List Byte
  | .cmd c => [c]
  | .dat ds => ds
  | .payload => s.payload
  | .rst _ => []
  | .dly _ => []
  | .dc _ => []
  | .swap => []
  | .done => []

/-- Byte `b_k` of a step's write (R162). -/
def State.writeByte (s : State) (k : Nat) : SeqStep → Byte
  | .cmd c => c
  | .dat ds => ds.getD k 0x00#8
  | .payload => s.entry s.front (BitVec.ofNat 13 k)
  | .rst _ => 0x00#8
  | .dly _ => 0x00#8
  | .dc _ => 0x00#8
  | .swap => 0x00#8
  | .done => 0x00#8

end Sys2Proof.Machine
end

