-- ==== Sys2Proof/Machine/Sequencer.lean ====
section
/-! DEFINITION. Sequencer: one rising edge of INIT_SEQ or FLUSH_SEQ.  A step starts (spec/30_encoding.md R90 to R92), its write
runs (spec/43_byte_stream_serializer.md R160 to R169), its delay waits (spec/41_register_init_fsm.md R120, R121). -/

namespace Sys2Proof.Machine

/-- DONE: leave the sequence with success.  INIT also sets INIT_DONE (R129); FLUSH does not (R140). -/
def State.finishSequence (s : State) : State :=
  match s.phase with
  | .initSeq => (s.setInitDone true).respond 0b10#2 false
  | .flushSeq => s.respond 0b11#2 false
  | .idle => s
  | .clearing => s
  | .respond => s
  | .filling => s

/-- R90: a step begins.  RST, DC, SWAP and DONE complete at once; DLY, CMD, DAT and PAYLOAD wait for their answer. -/
def State.startStep (e : Edge) (s : State) : SeqStep → State
  | .rst l => (s.setRstLine l).advance
  | .dly n => s.startDelay n
  | .cmd _ => (s.setDcLine false).startWrite false 1 (leavesGap e 0)
  | .dat ds => (s.setDcLine true).startWrite true ds.length (leavesGap e 0)
  | .dc l => (s.setDcLine l).advance
  | .swap => s.swapBuffers.advance
  | .payload => s.startWrite true bufEntries (leavesGap e 0)
  | .done => s.finishSequence

/-- R163, R164, R169, R201: the write failed.  The controller received some prefix of its bytes (log entry 17). -/
def State.failWrite (e : Edge) (s : State) (st : SeqStep) : State :=
  ((s.log (.wr s.wr.dc (s.writeBytes st) false)).deliver s.wr.dc ((s.writeBytes st).take e.received)).raiseTransportError

/-- R163: the write succeeded, and its step completes. -/
def State.completeWrite (s : State) (st : SeqStep) : State :=
  (((s.log (.wr s.wr.dc (s.writeBytes st) true)).deliver s.wr.dc (s.writeBytes st)).setWr { s.wr with active := false }).advance

/-- R162: a byte on offer is held until `tx_ready`; once it is accepted, and in a gap, the block may leave `tx_valid` = 0.  `k` gap
cycles have gone. -/
def Writer.offer (w : Writer) (e : Edge) (k : Nat) : Writer :=
  if w.gap then { w with gap := leavesGap e (k + 1) }
  else if e.txReady then { w with pos := w.pos + 1#14, gap := leavesGap e 0 }
  else w

/-- One edge with bytes unsent: the offer, and the count of gap cycles. -/
def State.offerByte (e : Edge) (s : State) : State :=
  (s.setWr (s.wr.offer e s.stalled)).setStalled (if s.wr.gap then s.stalled + 1 else if e.txReady then 0 else s.stalled)

/-- R160: one edge of a write in progress.  An error response ends it at any time (R164); a success response counts only after the
last byte was accepted (R163) and is ignored before (R165). -/
def State.writeEdge (e : Edge) (s : State) (st : SeqStep) : State :=
  if s.wr.unsent then
    if e.txRespValid && e.txRespErr then (s.offerByte e).failWrite e st
    else s.offerByte e
  else if e.txRespValid then
    if e.txRespErr then s.failWrite e st else s.completeWrite st
  else s

/-- R120, R121: one edge of an outstanding delay.  DLY_VAL keeps its value (log entry 23). -/
def State.delayEdge (e : Edge) (s : State) : State :=
  if e.dlyDone then ((s.log (.dly s.dly.ms)).setDly { s.dly with active := false }).advance else s

/-- One edge inside a step. -/
def State.stepEdge (e : Edge) (s : State) (st : SeqStep) : State :=
  if s.wr.active then s.writeEdge e st
  else if s.dly.active then s.delayEdge e
  else if s.pace e = 0 then s.paced e
  else (s.paced e).startStep e st

/-- One edge of INIT_SEQ or FLUSH_SEQ. -/
def State.sequenceEdge (e : Edge) (s : State) : Host.Outcome State Fault Refusal :=
  match s.currentStep with
  | some st => .next (s.stepEdge e st)
  | none => .fault (.noSuchStep s.stepPtr)

end Sys2Proof.Machine
end

