-- ==== Sys2Proof/Machine/InitFsm.lean ====
section
/-! DEFINITION. InitFsm (register_init_fsm): INIT (spec/41_register_init_fsm.md R123, R130). -/

namespace Sys2Proof.Machine

/-- R123: INIT, accepted in every IDLE state, whatever INIT_DONE is (R130).  INIT_DONE is cleared and the sequence starts at step 0;
`State.sequenceEdge` runs it. -/
def execInit (s : State) : Host.Outcome State Fault Refusal :=
  s.whenReady ((((s.setCur { s.cur with op := 0b10#2 }).setInitDone false).setStepPtr 0#6).setPhase .initSeq)

end Sys2Proof.Machine
end

