-- ==== Sys2Proof/Machine/WindowSequencer.lean ====
section
/-! DEFINITION. WindowSequencer (ram_window_sequencer): FLUSH (spec/42_ram_window_sequencer.md R140, R146). -/

namespace Sys2Proof.Machine

/-- R140: FLUSH, accepted in every IDLE state, whatever INIT_DONE is (R146).  The sequence starts at step 0;
`State.sequenceEdge` runs it. -/
def execFlush (s : State) : Host.Outcome State Fault Refusal :=
  s.whenReady (((s.setCur { s.cur with op := 0b11#2 }).setStepPtr 0#6).setPhase .flushSeq)

end Sys2Proof.Machine
end

