-- ==== Sys2Proof/Machine/Dispatch.lean ====
section
/-! DEFINITION. Dispatch: one arm per constructor of Instr. -/

namespace Sys2Proof.Machine

def exec (i : Instr) (s : State) : Host.Outcome State Fault Refusal :=
  match i with
  | .setpx x y g => Sys2Proof.Machine.execSetpx x y g s
  | .clear g => Sys2Proof.Machine.execClear g s
  | .init => Sys2Proof.Machine.execInit s
  | .flush => Sys2Proof.Machine.execFlush s
  | .columnAddress a b => Sys2Proof.Machine.execColumnAddress a b s
  | .writeRam => Sys2Proof.Machine.execWriteRam s
  | .rowAddress a b => Sys2Proof.Machine.execRowAddress a b s
  | .muxRatio a => Sys2Proof.Machine.execMuxRatio a s
  | .remap a b => Sys2Proof.Machine.execRemap a b s
  | .startLine a => Sys2Proof.Machine.execStartLine a s
  | .offsetLine a => Sys2Proof.Machine.execOffsetLine a s
  | .allPixelsOff => Sys2Proof.Machine.execAllPixelsOff s
  | .allPixelsOn => Sys2Proof.Machine.execAllPixelsOn s
  | .normalMode => Sys2Proof.Machine.execNormalMode s
  | .invertMode => Sys2Proof.Machine.execInvertMode s
  | .displayOff => Sys2Proof.Machine.execDisplayOff s
  | .displayOn => Sys2Proof.Machine.execDisplayOn s
  | .clockDivider a => Sys2Proof.Machine.execClockDivider a s
  | .enhancementA a b => Sys2Proof.Machine.execEnhancementA a b s
  | .enhancementB a b => Sys2Proof.Machine.execEnhancementB a b s

end Sys2Proof.Machine
end

