-- ==== Sys2Proof/WellFormed.lean ====
section
/-! DEFINITION. WellFormed: the checks of spec/30_encoding.md R85, R87, R89, R90 and spec/44_controller_command_set.md R180. -/

namespace Sys2Proof

/-- The 13 command bytes the block emits (R180; R188, R189 and R191 are never emitted). -/
def emittedBytes : List Byte :=
  [0x15#8, 0x5C#8, 0x75#8, 0xCA#8, 0xA0#8, 0xA1#8, 0xA2#8, 0xA6#8, 0xAE#8, 0xAF#8, 0xB3#8, 0xB4#8, 0xD1#8]

/-- A step as R90 admits it: `DAT` carries 1 or 2 bytes, `DC` only drives 1, and `CMD` sends a byte the block emits (R180). -/
def SeqStep.wellFormed : SeqStep → Bool
  | .rst _ => true
  | .dly _ => true
  | .cmd c => emittedBytes.contains c
  | .dat ds => ds.length == 1 || ds.length == 2
  | .dc l => l
  | .swap => true
  | .payload => true
  | .done => true

/-- A transport write as R87 admits it: one command byte under DC = 0, or 1, 2 or 8192 bytes under DC = 1. -/
def wellFormedWrite (dc : Bool) (bytes : List Byte) : Bool :=
  if dc then bytes.length == 1 || bytes.length == 2 || bytes.length == bufEntries
  else bytes.length == 1 && bytes.all emittedBytes.contains

/-- Every term is an instruction: each field's type holds exactly the values its encoding admits (R83: no encoding is illegal;
R84, R85: every coordinate and gray level is legal; R88: an argument is any byte). -/
def Instr.wellFormed : Instr → Bool
  | .setpx _ _ _ => true
  | .clear _ => true
  | .init => true
  | .flush => true
  | .columnAddress _ _ => true
  | .writeRam => true
  | .rowAddress _ _ => true
  | .muxRatio _ => true
  | .remap _ _ => true
  | .startLine _ => true
  | .offsetLine _ => true
  | .allPixelsOff => true
  | .allPixelsOn => true
  | .normalMode => true
  | .invertMode => true
  | .displayOff => true
  | .displayOn => true
  | .clockDivider _ => true
  | .enhancementA _ _ => true
  | .enhancementB _ _ => true

end Sys2Proof
end

