-- ==== Sys2Proof/Decode.lean ====
section
/-! DEFINITION. Decode and encode: the host command word (spec/30_encoding.md R80 to R85) and the controller's byte stream
(R88, R89).  Decoding is total. -/

namespace Sys2Proof

/-! The host command word (R80): X 31..0, Y 63..32, GRAY 67..64, RSV 69..68, OP 71..70. -/

def wordX (w : HostWord) : Coord := w.extractLsb' 0 coordW
def wordY (w : HostWord) : Coord := w.extractLsb' 32 coordW
def wordGray (w : HostWord) : Gray := w.extractLsb' 64 4
def wordOp (w : HostWord) : OpCode := w.extractLsb' 70 2

/-- R80, R93: a word from its fields, with RSV = 0. -/
def hostWord (op : OpCode) (gray : Gray) (y x : Coord) : HostWord := op ++ 0#2 ++ gray ++ y ++ x

/-- R81: OP selects the operation, and every value is defined.  RSV and the fields the operation does not read are ignored
(R82, R83). -/
def decodeHost (w : HostWord) : Instr :=
  if wordOp w = 0b00#2 then .setpx (wordX w) (wordY w) (wordGray w)
  else if wordOp w = 0b01#2 then .clear (wordGray w)
  else if wordOp w = 0b10#2 then .init
  else .flush

/-! The controller's commands (R89). -/

/-- The command byte (R89, first column). -/
def CtrlCmd.byte : CtrlCmd → Byte
  | .columnAddress => 0x15#8
  | .writeRam => 0x5C#8
  | .rowAddress => 0x75#8
  | .muxRatio => 0xCA#8
  | .remap => 0xA0#8
  | .startLine => 0xA1#8
  | .offsetLine => 0xA2#8
  | .allPixelsOff => 0xA4#8
  | .allPixelsOn => 0xA5#8
  | .normalMode => 0xA6#8
  | .invertMode => 0xA7#8
  | .displayOff => 0xAE#8
  | .displayOn => 0xAF#8
  | .clockDivider => 0xB3#8
  | .enhancementA => 0xB4#8
  | .enhancementB => 0xD1#8

/-- The number of argument bytes (R89, third column).  DESIGN CHOICE (log entry 4): 0 for 0xA4, 0xA5 and 0xA7, which R89 leaves
out. -/
def CtrlCmd.argCount : CtrlCmd → Nat
  | .columnAddress => 2
  | .writeRam => 0
  | .rowAddress => 2
  | .muxRatio => 1
  | .remap => 2
  | .startLine => 1
  | .offsetLine => 1
  | .allPixelsOff => 0
  | .allPixelsOn => 0
  | .normalMode => 0
  | .invertMode => 0
  | .displayOff => 0
  | .displayOn => 0
  | .clockDivider => 1
  | .enhancementA => 2
  | .enhancementB => 2

/-- The sixteen rows of R89, in its order. -/
def CtrlCmd.all : List CtrlCmd :=
  [.columnAddress, .writeRam, .rowAddress, .muxRatio, .remap, .startLine, .offsetLine, .allPixelsOff,
   .allPixelsOn, .normalMode, .invertMode, .displayOff, .displayOn, .clockDivider, .enhancementA, .enhancementB]

/-- The command a byte names, if any. -/
def CtrlCmd.ofByte (b : Byte) : Option CtrlCmd := CtrlCmd.all.find? (fun c => c.byte == b)

/-- The instruction of a command with its argument bytes; `none` for a wrong number of them. -/
def CtrlCmd.build : CtrlCmd → List Byte → Option Instr
  | .columnAddress, [a, b] => some (.columnAddress a b)
  | .writeRam, [] => some .writeRam
  | .rowAddress, [a, b] => some (.rowAddress a b)
  | .muxRatio, [a] => some (.muxRatio a)
  | .remap, [a, b] => some (.remap a b)
  | .startLine, [a] => some (.startLine a)
  | .offsetLine, [a] => some (.offsetLine a)
  | .allPixelsOff, [] => some .allPixelsOff
  | .allPixelsOn, [] => some .allPixelsOn
  | .normalMode, [] => some .normalMode
  | .invertMode, [] => some .invertMode
  | .displayOff, [] => some .displayOff
  | .displayOn, [] => some .displayOn
  | .clockDivider, [a] => some (.clockDivider a)
  | .enhancementA, [a, b] => some (.enhancementA a b)
  | .enhancementB, [a, b] => some (.enhancementB a b)
  | _, _ => none

/-- The outcome of looking for a command's argument bytes. -/
inductive ArgsRead where
  /-- all of them, and what follows -/
  | got (args : List Byte) (rest : List BusByte)
  /-- the stream ends before the last of them -/
  | more
  /-- a command byte stands where an argument should: the command is cut short -/
  | cut (rest : List BusByte)
deriving DecidableEq, Repr

/-- Put an argument byte in front. -/
def ArgsRead.cons (a : Byte) : ArgsRead → ArgsRead
  | .got args rest => .got (a :: args) rest
  | .more => .more
  | .cut rest => .cut rest

/-- The next `n` bytes, all of them data bytes (R88: arguments follow their command under DC = 1). -/
def takeArgs : Nat → List BusByte → ArgsRead
  | 0, items => .got [] items
  | _ + 1, [] => .more
  | n + 1, b :: rest => if b.dc then (takeArgs n rest).cons b.byte else .cut (b :: rest)

/-- The data bytes at the head of the stream. -/
def leadingData : List BusByte → List Byte
  | [] => []
  | b :: rest => if b.dc then b.byte :: leadingData rest else []

/-- The stream after the data bytes at its head. -/
def afterData : List BusByte → List BusByte
  | [] => []
  | b :: rest => if b.dc then afterData rest else b :: rest

/-- What the bytes the controller has received hold first. -/
inductive StreamRead where
  /-- nothing, or a command whose arguments have not all come -/
  | waiting
  /-- a whole command -/
  | command (i : Instr) (rest : List BusByte)
  /-- data bytes that are no command's arguments -/
  | data (bytes : List Byte) (rest : List BusByte)
  /-- a command byte followed by another before its arguments were complete -/
  | cutShort (rest : List BusByte)
  /-- a byte under DC = 0 that is none of the sixteen -/
  | notACommand (b : Byte)
deriving DecidableEq, Repr

/-- R88, R89: read the stream; a command's length follows from its byte. -/
def readStream : List BusByte → StreamRead
  | [] => .waiting
  | b :: rest =>
    if b.dc then .data (leadingData (b :: rest)) (afterData (b :: rest))
    else match CtrlCmd.ofByte b.byte with
      | none => .notACommand b.byte
      | some c => match takeArgs c.argCount rest with
        | .more => .waiting
        | .cut r => .cutShort r
        | .got args r => match c.build args with
          | some i => .command i r
          | none => .notACommand b.byte

/-! Encoding. -/

/-- The two encoded surfaces an instruction comes on (spec/30_encoding.md). -/
inductive Encoded where
  | host (w : HostWord)
  | stream (items : List BusByte)
deriving DecidableEq, Repr

/-- R88: a command byte under DC = 0, its arguments under DC = 1. -/
def CtrlCmd.items (c : CtrlCmd) (args : List Byte) : List BusByte :=
  ⟨false, c.byte⟩ :: args.map (fun a => ⟨true, a⟩)

/-- The words of an instruction.  A host word has RSV = 0 and unread fields 0 (R93). -/
def encode : Instr → Encoded
  | .setpx x y g => .host (hostWord 0b00#2 g y x)
  | .clear g => .host (hostWord 0b01#2 g 0#32 0#32)
  | .init => .host (hostWord 0b10#2 0#4 0#32 0#32)
  | .flush => .host (hostWord 0b11#2 0#4 0#32 0#32)
  | .columnAddress a b => .stream (CtrlCmd.columnAddress.items [a, b])
  | .writeRam => .stream (CtrlCmd.writeRam.items [])
  | .rowAddress a b => .stream (CtrlCmd.rowAddress.items [a, b])
  | .muxRatio a => .stream (CtrlCmd.muxRatio.items [a])
  | .remap a b => .stream (CtrlCmd.remap.items [a, b])
  | .startLine a => .stream (CtrlCmd.startLine.items [a])
  | .offsetLine a => .stream (CtrlCmd.offsetLine.items [a])
  | .allPixelsOff => .stream (CtrlCmd.allPixelsOff.items [])
  | .allPixelsOn => .stream (CtrlCmd.allPixelsOn.items [])
  | .normalMode => .stream (CtrlCmd.normalMode.items [])
  | .invertMode => .stream (CtrlCmd.invertMode.items [])
  | .displayOff => .stream (CtrlCmd.displayOff.items [])
  | .displayOn => .stream (CtrlCmd.displayOn.items [])
  | .clockDivider a => .stream (CtrlCmd.clockDivider.items [a])
  | .enhancementA a b => .stream (CtrlCmd.enhancementA.items [a, b])
  | .enhancementB a b => .stream (CtrlCmd.enhancementB.items [a, b])

/-- The one instruction an encoded form holds, if it holds exactly one. -/
def decode : Encoded → Option Instr
  | .host w => some (decodeHost w)
  | .stream items => match readStream items with
    | .command i [] => some i
    | _ => none

/-- The bytes of the controller command whose command byte is `w`, its arguments 0. -/
def tableItems (w : Nat) : List BusByte :=
  match CtrlCmd.ofByte (BitVec.ofNat 8 w) with
  | some c => c.items (List.replicate c.argCount 0x00#8)
  | none => [⟨false, BitVec.ofNat 8 w⟩]

/-- The decoder on a row of spec/opcode_table.json: an 8-bit row (CTRL_CMD8) is a command byte of the controller's stream, a wider
one (HOST_CMD72) is a host command word. -/
def decodeTableWord (nbits w : Nat) : Option Instr :=
  if nbits ≤ 8 then decode (.stream (tableItems w)) else decode (.host (BitVec.ofNat 72 w))

end Sys2Proof
end

