-- ==== Sys2Proof/Machine/Fetch.lean ====
section
/-! DEFINITION. Fetch: what the next step does.  The controller acts on what it has received as soon as a command is whole (log
entry 10); otherwise the block takes its next rising edge (spec/10_state.md R20 to R23, R35). -/

namespace Sys2Proof.Machine

/-- What the next step does. -/
inductive Action where
  /-- run an instruction on a state that has fetched it -/
  | run (i : Instr) (s : State)
  /-- an edge that runs no instruction -/
  | settle (o : Host.Outcome State Fault Refusal)

/-- R21: a command is accepted; its word is an event (R13). -/
def State.commandTaken (s : State) (e : Edge) : State := s.edgeTaken.log (.cmd e.cmdWord)

/-- One rising edge of the block, with what the world brings to it.  `rst_n` = 0 has priority over everything (R206, R209).  No
command is looked at outside IDLE (R22), no transport or delay answer outside the sequences (R120, R165). -/
def State.blockAction (s : State) (e : Edge) : Action :=
  if e.rstN then
    match s.phase with
    | .idle => if e.cmdValid then .run (decodeHost e.cmdWord) (s.commandTaken e) else .settle (.next s.edgeTaken)
    | .clearing => .settle (.next (s.edgeTaken.clearEdge e))
    | .initSeq => .settle (s.edgeTaken.sequenceEdge e)
    | .flushSeq => .settle (s.edgeTaken.sequenceEdge e)
    | .respond => .settle (.next (if e.rspReady then s.edgeTaken.takeResponse else s.edgeTaken))
    | .filling => .settle (.next (s.edgeTaken.fillEdge e))
  else .settle (.next s.edgeTaken.resetRegisters)

/-- The next action of the whole machine. -/
def State.nextAction (s : State) : Action :=
  match readStream s.inbox with
  | .waiting => s.blockAction s.edge
  | .command i rest => .run i (s.setInbox rest).ticked
  | .data bytes rest => .settle (.next ((s.setInbox rest).ticked.takeData bytes))
  | .cutShort rest => .settle (.next (s.setInbox rest).ticked.regsUnknown)
  | .notACommand b => .settle (.refused (.notACommandByte b))

/-- An edge that offers the block a command word, with `rst_n` = 1 and nothing else. -/
def offerEdge (w : HostWord) : Edge := ⟨true, true, w, false, false, false, false, false, 0, false, 0⟩

/-- The state whose next step fetches the row of spec/opcode_table.json that has `nbits` bits `w`: a controller command waits in
the inbox, or an IDLE block is offered a host word. -/
def State.placeTableWord (s : State) (nbits w : Nat) : State :=
  if nbits ≤ 8 then s.setInbox (tableItems w)
  else ((s.setInbox []).setPhase .idle).setComing (offerEdge (BitVec.ofNat 72 w) :: s.coming)

end Sys2Proof.Machine
end

