-- ==== Sys2Proof/Machine/Step.lean ====
section
/-! DEFINITION. Step: one step of the machine, and placing a word where it is fetched next. -/

namespace Sys2Proof.Machine

/-- One step: an instruction that has been fetched runs; any other edge is settled by `State.nextAction`. -/
def step (s : State) : Host.Outcome State Fault Refusal :=
  match s.nextAction with
  | .run i fetched => exec i fetched
  | .settle o => o

/-- `s` with an instruction's word where the next step fetches it (log entry 11). -/
def State.withFetchWord (s : State) (nbits w : Nat) : State := s.placeTableWord nbits w

end Sys2Proof.Machine
end

