-- ==== Sys2Proof/Machine/Ports.lean ====
section
/-! DEFINITION. Ports: the levels on the block's output ports (spec/10_state.md, the port summary; R22 to R27, R230), for the level
of `rst_n` in the same cycle. -/

namespace Sys2Proof.Machine

/-- The output ports of spec/10_state.md. -/
structure Ports where
  cmdReady : Bool
  rspValid : Bool
  rspOp    : OpCode
  rspErr   : Bool
  readyO   : Bool
  busyO    : Bool
  frontO   : BitVec 1
  txValid  : Bool
  txData   : Byte
  txLast   : Bool
  dcO      : Bool
  rstO     : Bool
  dlyReq   : Bool
  dlyMs    : Millis
deriving DecidableEq, Repr

/-- R162: the byte on offer. -/
def State.offeredByte (s : State) : Byte :=
  match s.currentStep with
  | some st => s.writeByte s.wr.pos.toNat st
  | none => 0x00#8

/-- R22 to R27.  While `rst_n` = 0 the four handshake outputs are 0 (R230).  DESIGN CHOICE (log entry 9): `tx_data` and `tx_last`
are 0 while `tx_valid` = 0. -/
def State.ports (rstN : Bool) (s : State) : Ports where
  cmdReady := rstN && s.cmdReady
  rspValid := rstN && s.rspValid
  rspOp := s.rsp.op
  rspErr := s.rsp.err
  readyO := s.ready
  busyO := s.busy
  frontO := s.front
  txValid := rstN && s.wr.offering
  txData := if rstN && s.wr.offering then s.offeredByte else 0x00#8
  txLast := rstN && s.wr.offering && s.wr.atLast
  dcO := s.dcLvl
  rstO := s.rstLvl
  dlyReq := rstN && s.dly.active
  dlyMs := s.dly.ms

end Sys2Proof.Machine
end

