-- ==== Sys2Proof/Safety.lean ====
section
/-! DEFINITION. Safety: what a legal state is, the duties of the host and the transport, an environment that serves each sequence
step, and the traces of spec/41_register_init_fsm.md R133 and spec/42_ram_window_sequencer.md R148. -/

namespace Sys2Proof.Machine

/-! Runs. -/

/-- `k` steps of the machine. -/
abbrev runs (k : Nat) (s : State) : Host.Outcome State Fault Refusal := Host.Core.run Sys2Proof.core k s

/-- The controller has nothing to act on, so the next step is the block's next rising edge. -/
abbrev State.quiet (s : State) : Prop := readStream s.inbox = .waiting

/-! Legal states.  Each part is an invariant of the spec; every run keeps them all. -/

/-- The frame store is in its canonical form. -/
abbrev State.MemoryOk (s : State) : Prop := s.mem.wf = true

/-- R32: every entry holds one gray level in both nibbles. -/
def State.NibblesEqual (s : State) : Prop :=
  ∀ a : FrameAddr, (s.mem.read a).extractLsb' 4 4 = (s.mem.read a).extractLsb' 0 4

/-- The sequencer, the serializer, the delay port and the latched command agree with the step at STEP. -/
structure State.SequencerOk (s : State) : Prop where
  /-- R37: STEP points at a step of the sequence that runs. -/
  stepExists : s.phase = .initSeq ∨ s.phase = .flushSeq → s.currentStep.isSome = true
  /-- R160, R161: a write in progress is the current step's, under its DC level, not past its end. -/
  writing : s.wr.active = true → ∃ st, s.currentStep = some st ∧ 0 < st.writeLen ∧ s.wr.len.toNat = st.writeLen ∧
    s.wr.dc = st.writeDc ∧ s.dcLvl = s.wr.dc ∧ s.wr.pos.toNat ≤ s.wr.len.toNat
  /-- R120: a delay request in progress is the current step's. -/
  delaying : s.dly.active = true → s.currentStep = some (.dly s.dly.ms)
  /-- R31, R123: during INIT, CUR_OP is INIT's and INIT_DONE is 0. -/
  initRuns : s.phase = .initSeq → s.cur.op = 0b10#2 ∧ s.initDone = false
  /-- R140: during FLUSH, CUR_OP is FLUSH's. -/
  flushRuns : s.phase = .flushSeq → s.cur.op = 0b11#2
  /-- R104: during CLEAR, CUR_OP is CLEAR's. -/
  clearRuns : s.phase = .clearing → s.cur.op = 0b01#2
  /-- R91: SWAP and PAYLOAD find the DC line at data. -/
  dataMode : s.currentStep = some .swap ∨ s.currentStep = some .payload → s.dcLvl = true
  /-- R125: the reset line is low only inside INIT's reset pulse. -/
  resetLow : s.rstLvl = false → s.phase = .initSeq ∧ (s.stepPtr = 2#6 ∨ s.stepPtr = 3#6)
  /-- R86: a response answers the command that was executed, and only INIT and FLUSH can report an error. -/
  answers : s.phase = .respond → s.rsp.op = s.cur.op ∧ (s.rsp.err = true → s.cur.op = 0b10#2 ∨ s.cur.op = 0b11#2)

/-- R104, R230: what the two fills have done so far. -/
structure State.FillOk (s : State) : Prop where
  /-- R230: the entries below CLR_IDX read 0x00. -/
  filled : s.phase = .filling → ∀ a : FrameAddr, a.toNat < s.clrIdx.toNat → s.mem.read a = 0x00#8
  /-- R104: the back buffer's entries below CLR_IDX hold the gray level. -/
  cleared : s.phase = .clearing → ∀ i : EntryIndex, i.toNat < s.clrIdx.toNat → s.entry s.back i = entryOf s.cur.gray

/-- R180: every byte the controller received under DC = 0 is one of the sixteen. -/
def State.InboxOk (s : State) : Prop := ∀ b ∈ s.inbox, b.dc = false → (CtrlCmd.ofByte b.byte).isSome = true

/-- All of them. -/
structure State.Legal (s : State) : Prop where
  memory : s.MemoryOk
  nibbles : s.NibblesEqual
  sequencer : s.SequencerOk
  fill : s.FillOk
  inbox : s.InboxOk

/-! Duties (R21, R165, R234, R239).  The block's own behaviour does not depend on them. -/

/-- R165, R234: the transport answers only an active write, and success only after its last byte. -/
def transportKeepsDuty (s : State) (e : Edge) : Bool :=
  !e.txRespValid || (s.wr.active && (e.txRespErr || !s.wr.unsent))

/-- R21, R239: the host holds the word it offers until it is accepted. -/
def hostHoldsWord (s : State) (e e' : Edge) : Bool :=
  !(e.cmdValid && !s.cmdReady) || (e'.cmdValid && e'.cmdWord == e.cmdWord)

/-! Progress (R234, R240, R241). -/

/-- A command or the reset fill is being executed: the block has work to do before it answers or becomes IDLE. -/
abbrev State.working (s : State) : Prop := s.phase ≠ .idle ∧ s.phase ≠ .respond

/-- The block can do nothing at this edge but wait for the transport to take a byte, for its answer, or for the delay provider.  The
duty of R234 is that this does not last for ever. -/
def State.waitsForWorld (s : State) (e : Edge) : Bool :=
  (s.phase == .initSeq || s.phase == .flushSeq) &&
  (s.wr.offering && !e.txReady && !(e.txRespValid && e.txRespErr) ||
   s.wr.active && !s.wr.unsent && !e.txRespValid ||
   !s.wr.active && s.dly.active && !e.dlyDone)

/-- What a sequence step asks for: its start, its bytes, its answer. -/
def stepUnits (st : SeqStep) : Nat := st.writeLen + 2

/-- What the running sequence still asks for. -/
def State.sequenceUnits (s : State) : Nat :=
  (if s.wr.active then s.wr.len.toNat - s.wr.pos.toNat + 1
   else if s.dly.active then 1
   else match s.currentStep with
     | some st => stepUnits st
     | none => 1) +
  ((s.sequence.drop (s.stepPtr.toNat + 1)).map stepUnits).sum

/-- The pieces of work left before the block answers or becomes IDLE. -/
def State.unitsLeft (s : State) : Nat :=
  match s.phase with
  | .idle => 0
  | .respond => 0
  | .clearing => bufEntries - s.clrIdx.toNat + 1
  | .filling => frameEntries - s.clrIdx.toNat + 1
  | .initSeq => s.sequenceUnits
  | .flushSeq => s.sequenceUnits

/-- The pieces of work left, and the edges the block may still spend without getting on with the next one (R240).  An edge that does
not wait for the world lowers it. -/
def State.rank (s : State) : Nat :=
  if s.unitsLeft = 0 then 0
  else s.unitsLeft * (Config.maxStall + 3) + (if s.wr.active && s.wr.gap then 1 else 0) + (Config.maxStall + 1 - s.stalled)

/-! An environment that serves each step at once. -/

/-- An edge at which the world does nothing. -/
def stillEdge : Edge := ⟨true, false, 0#72, false, false, false, false, false, 0, false, 0⟩
/-- The block gets on with its own work. -/
def goEdge : Edge := { stillEdge with work := 1 }
/-- The transport takes a byte. -/
def readyEdge : Edge := { stillEdge with txReady := true }
/-- The transport answers success. -/
def okEdge : Edge := { stillEdge with txRespValid := true }
/-- The transport answers failure, the controller having received `k` bytes. -/
def errEdge (k : Nat) : Edge := { stillEdge with txRespValid := true, txRespErr := true, received := k }
/-- The delay provider is done. -/
def doneEdge : Edge := { stillEdge with dlyDone := true }
/-- The host takes the response. -/
def takeEdge : Edge := { stillEdge with rspReady := true }

/-- A write of `n` bytes: start, `n` bytes accepted. -/
def bytesEdges (n : Nat) : List Edge := goEdge :: List.replicate n readyEdge

/-- The edges that carry one step to its end. -/
def stepEdges : SeqStep → List Edge
  | .rst _ => [goEdge]
  | .dly _ => [goEdge, doneEdge]
  | .cmd _ => bytesEdges 1 ++ [okEdge]
  | .dat ds => bytesEdges ds.length ++ [okEdge]
  | .dc _ => [goEdge]
  | .swap => [goEdge]
  | .payload => bytesEdges bufEntries ++ [okEdge]
  | .done => [goEdge]

/-- The edges that carry a whole sequence to its response. -/
def sequenceEdges (steps : List SeqStep) : List Edge := steps.flatMap stepEdges

/-! Traces. -/

/-- R148: a FLUSH's events up to the payload, from DC_LVL = 0. -/
def windowTrace (c : Config) : List Event :=
  [.wr false [0x15#8] true, .dc true, .wr true [c.colStart, c.colEnd] true, .dc false,
   .wr false [0x75#8] true, .dc true, .wr true [c.rowStart, c.rowEnd] true, .dc false,
   .wr false [0x5C#8] true, .dc true, .swap]

/-- R148: the trace of one FLUSH with every write `ok`, from DC_LVL = 0. -/
def flushTrace (c : Config) (frame : List Byte) : List Event := windowTrace c ++ [.wr true frame true]

/-- R133: the trace of one INIT with every write `ok`, from RST_LVL = 1 and DC_LVL = `dc`.  From 1, where a FLUSH leaves it (R148),
step 5 adds one `DC 0`. -/
def initTrace (c : Config) (dc : Bool) (frame : List Byte) : List Event :=
  [.rst false, .dly c.tRstLow, .rst true, .dly c.tRstHold] ++ (if dc then [.dc false] else []) ++
  [.wr false [0xB3#8] true, .dc true, .wr true [c.clkDivArg] true, .dc false,
   .wr false [0xCA#8] true, .dc true, .wr true [c.muxArg] true, .dc false,
   .wr false [0x15#8] true, .dc true, .wr true [c.colStart, c.colEnd] true, .dc false,
   .wr false [0x75#8] true, .dc true, .wr true [c.rowStart, c.rowEnd] true, .dc false,
   .wr false [0xA1#8] true, .dc true, .wr true [c.startLineArg] true, .dc false,
   .wr false [0xA2#8] true, .dc true, .wr true [c.offsetArg] true, .dc false,
   .wr false [0xA0#8] true, .dc true, .wr true [c.remapA, c.remapB] true, .dc false,
   .wr false [0xA6#8] true, .wr false [0xAE#8] true,
   .wr false [0xB4#8] true, .dc true, .wr true [c.enhA1, c.enhA2] true, .dc false,
   .wr false [0xD1#8] true, .dc true, .wr true [c.enhB1, c.enhB2] true, .dc false]
  ++ flushTrace c frame ++ [.dc false, .wr false [0xAF#8] true, .dly c.tOnSettle]

/-- R13, R90, R91: the events of one step, from the levels the two lines have, its write (if any) answered `ok` or `err`. -/
def stepTrace (frame : List Byte) (rst dc ok : Bool) : SeqStep → List Event
  | .rst l => if rst = l then [] else [.rst l]
  | .dly n => [.dly n]
  | .cmd c => (if dc then [.dc false] else []) ++ [.wr false [c] ok]
  | .dat ds => (if dc then [] else [.dc true]) ++ [.wr true ds ok]
  | .dc l => if dc = l then [] else [.dc l]
  | .swap => [.swap]
  | .payload => [.wr true frame ok]
  | .done => []

/-- R91: RST_LVL after a step. -/
def rstAfter (rst : Bool) : SeqStep → Bool
  | .rst l => l
  | .dly _ => rst
  | .cmd _ => rst
  | .dat _ => rst
  | .dc _ => rst
  | .swap => rst
  | .payload => rst
  | .done => rst

/-- R91: DC_LVL after a step. -/
def dcAfter (dc : Bool) : SeqStep → Bool
  | .rst _ => dc
  | .dly _ => dc
  | .cmd _ => false
  | .dat _ => true
  | .dc l => l
  | .swap => dc
  | .payload => dc
  | .done => dc

/-- R132, R202: the events of steps that complete, followed by those of a step whose write fails. -/
def failedTrace (frame : List Byte) (failing : SeqStep) : Bool → Bool → List SeqStep → List Event
  | rst, dc, [] => stepTrace frame rst dc false failing
  | rst, dc, st :: rest => stepTrace frame rst dc true st ++ failedTrace frame failing (rstAfter rst st) (dcAfter dc st) rest

/-- BUF[b][0] to BUF[b][8191]. -/
def State.frame (s : State) (b : BitVec 1) : List Byte := (List.range bufEntries).map fun i => s.entry b (BitVec.ofNat 13 i)

/-- What a complete INIT leaves in the controller's registers (R124, R40). -/
def programmed (c : Config) (frame : List Byte) : CtrlRegs where
  clkDiv := c.clkDivArg
  mux := c.muxArg
  colStart := c.colStart
  colEnd := c.colEnd
  rowStart := c.rowStart
  rowEnd := c.rowEnd
  startLine := c.startLineArg
  offset := c.offsetArg
  remapA := c.remapA
  remapB := c.remapB
  mode := .normal
  displayOn := true
  enhA1 := c.enhA1
  enhA2 := c.enhA2
  enhB1 := c.enhB1
  enhB2 := c.enhB2
  ramOpen := false
  ramFresh := false
  ram := frame

end Sys2Proof.Machine
end

