-- ==== Sys2Proof/Certificates/Slice0/Obligations.lean ====
section
/-! DEFINITION. The statements for the provers.  Each docstring names the rule of spec/ it formalises; a clause that rests on the
model's own choice names the log entry. -/

open Sys2Proof Sys2Proof.Machine

/-! ## Encoding -/

/-- R80, R81, R83: the fields of a host word, the four operations, and RSV ignored at every value. -/
def Obligations.HostWordDecodes : Prop :=
  ∀ (x y : Coord) (g : Gray) (rsv : BitVec 2),
    decodeHost (0b00#2 ++ rsv ++ g ++ y ++ x) = .setpx x y g ∧
    decodeHost (0b01#2 ++ rsv ++ g ++ y ++ x) = .clear g ∧
    decodeHost (0b10#2 ++ rsv ++ g ++ y ++ x) = .init ∧
    decodeHost (0b11#2 ++ rsv ++ g ++ y ++ x) = .flush

/-- R82: two host words are the same instruction exactly when their OP is the same and so is every field the operation reads. -/
def Obligations.HostWordsAgreeOnReadFields : Prop :=
  ∀ w w' : HostWord, decodeHost w = decodeHost w' ↔
    wordOp w = wordOp w' ∧
    (wordOp w = 0b00#2 → wordX w = wordX w' ∧ wordY w = wordY w' ∧ wordGray w = wordGray w') ∧
    (wordOp w = 0b01#2 → wordGray w = wordGray w')

/-- R82, R83: a field an operation does not read affects no state and no output.  The event that records the host's own word differs
(R13), and this statement says nothing of the rest of the trace.  Both steps are at one `tick`, so where the controller's registers
become unknown both read one free value (log entry 3). -/
def Obligations.UnreadFieldsAffectNothing : Prop :=
  ∀ (s t : State) (e : Edge) (es : List Edge) (w w' : HostWord), s.quiet → decodeHost w = decodeHost w' →
    step (s.setComing ({ e with cmdWord := w } :: es)) = .next t →
    ∃ t', step (s.setComing ({ e with cmdWord := w' } :: es)) = .next t' ∧
      t' = { t with trace := t'.trace } ∧ ∀ rstN, t'.ports rstN = t.ports rstN

/-- Decoding the encoding of any well-formed instruction gives it back (R80 to R85, R88, R89). -/
def Obligations.DecodeEncode : Prop := ∀ i : Instr, i.wellFormed = true → decode (encode i) = some i

/-- The words of spec/95_test_vectors.md 2.1 and one stream of each argument count of R89. -/
def Obligations.WordsOfTheSpec : Prop :=
  decodeTableWord 72 0x0A0000000200000005 = some (.setpx 5#32 2#32 10#4) ∧
  decodeTableWord 72 0x0300000000FFFFFFFF = some (.setpx (-1#32) 0#32 3#4) ∧
  decodeTableWord 72 0x3A0000000200000005 = some (.setpx 5#32 2#32 10#4) ∧
  decodeTableWord 72 0x47123456789ABCDEF0 = some (.clear 7#4) ∧
  decodeTableWord 72 0xBFFFFFFFFFFFFFFFFF = some .init ∧
  decodeTableWord 72 0xFFFFFFFFFFFFFFFFFF = some .flush ∧
  decode (.stream [⟨false, 0x15#8⟩, ⟨true, 0x1C#8⟩, ⟨true, 0x5B#8⟩]) = some (.columnAddress 0x1C#8 0x5B#8) ∧
  decode (.stream [⟨false, 0xCA#8⟩, ⟨true, 0x3F#8⟩]) = some (.muxRatio 0x3F#8) ∧
  decode (.stream [⟨false, 0xAF#8⟩]) = some .displayOn ∧
  decode (.stream [⟨false, 0x00#8⟩]) = none

/-- R89: the sixteen command bytes, the argument counts it gives (none for 0xA4, 0xA5, 0xA7; 0x5C's payload is no argument), and
which sequence sends which byte.  The next write after 0x5C is the 8192-byte payload. -/
def Obligations.CommandByteTable : Prop :=
  (∀ b : Byte, (CtrlCmd.ofByte b).isSome = true ↔ b ∈ ([0x15#8, 0x5C#8, 0x75#8, 0xCA#8, 0xA0#8, 0xA1#8, 0xA2#8, 0xA4#8,
      0xA5#8, 0xA6#8, 0xA7#8, 0xAE#8, 0xAF#8, 0xB3#8, 0xB4#8, 0xD1#8] : List Byte)) ∧
  (∀ c : CtrlCmd, CtrlCmd.ofByte c.byte = some c) ∧
  (CtrlCmd.columnAddress.byte = 0x15#8 ∧ CtrlCmd.columnAddress.argCount = 2) ∧
  (CtrlCmd.writeRam.byte = 0x5C#8 ∧ CtrlCmd.writeRam.argCount = 0) ∧
  (CtrlCmd.rowAddress.byte = 0x75#8 ∧ CtrlCmd.rowAddress.argCount = 2) ∧
  (CtrlCmd.muxRatio.byte = 0xCA#8 ∧ CtrlCmd.muxRatio.argCount = 1) ∧
  (CtrlCmd.remap.byte = 0xA0#8 ∧ CtrlCmd.remap.argCount = 2) ∧
  (CtrlCmd.startLine.byte = 0xA1#8 ∧ CtrlCmd.startLine.argCount = 1) ∧
  (CtrlCmd.offsetLine.byte = 0xA2#8 ∧ CtrlCmd.offsetLine.argCount = 1) ∧
  CtrlCmd.allPixelsOff.byte = 0xA4#8 ∧ CtrlCmd.allPixelsOn.byte = 0xA5#8 ∧ CtrlCmd.invertMode.byte = 0xA7#8 ∧
  (CtrlCmd.normalMode.byte = 0xA6#8 ∧ CtrlCmd.normalMode.argCount = 0) ∧
  (CtrlCmd.displayOff.byte = 0xAE#8 ∧ CtrlCmd.displayOff.argCount = 0) ∧
  (CtrlCmd.displayOn.byte = 0xAF#8 ∧ CtrlCmd.displayOn.argCount = 0) ∧
  (CtrlCmd.clockDivider.byte = 0xB3#8 ∧ CtrlCmd.clockDivider.argCount = 1) ∧
  (CtrlCmd.enhancementA.byte = 0xB4#8 ∧ CtrlCmd.enhancementA.argCount = 2) ∧
  (CtrlCmd.enhancementB.byte = 0xD1#8 ∧ CtrlCmd.enhancementB.argCount = 2) ∧
  (∀ (c : Config) (b : Byte), SeqStep.cmd b ∈ flushSequence c ↔ b ∈ ([0x15#8, 0x5C#8, 0x75#8] : List Byte)) ∧
  (∀ (c : Config) (b : Byte), SeqStep.cmd b ∈ initSequence c ↔ b ∈ ([0x15#8, 0x5C#8, 0x75#8, 0xCA#8, 0xA0#8, 0xA1#8,
      0xA2#8, 0xA6#8, 0xAE#8, 0xAF#8, 0xB3#8, 0xB4#8, 0xD1#8] : List Byte)) ∧
  (∀ c : Config, (flushSequence c)[4]? = some (.cmd 0x5C#8) ∧ (flushSequence c)[5]? = some (.dc true) ∧
    (flushSequence c)[6]? = some .swap ∧ (flushSequence c)[7]? = some .payload ∧
    (initSequence c)[29]? = some (.cmd 0x5C#8) ∧ (initSequence c)[30]? = some (.dc true) ∧
    (initSequence c)[31]? = some .swap ∧ (initSequence c)[32]? = some .payload) ∧
  SeqStep.payload.writeLen = 8192

/-! ## Operands -/

/-- R100: the entry value of a gray level. -/
def Obligations.EntryValueDoublesTheNibble : Prop :=
  ∀ g : Gray, entryOf g = (g.setWidth 8 <<< 4) ||| g.setWidth 8 ∧ (entryOf g).toNat = 17 * g.toNat ∧
    (entryOf g).extractLsb' 4 4 = g ∧ (entryOf g).extractLsb' 0 4 = g

/-- R102: the bounds test on signed values.  That it is exactly `X[31:7] = 0` and `Y[31:6] = 0` is R102's own inference from R84. -/
def Obligations.InRangeIsTheSignedTest : Prop :=
  ∀ x y : Coord,
    (inRange x y = true ↔ 0 ≤ x.toInt ∧ x.toInt < 128 ∧ 0 ≤ y.toInt ∧ y.toInt < 64) ∧
    (inRange x y = true ↔ x.extractLsb' 7 25 = 0#25 ∧ y.extractLsb' 6 26 = 0#26)

/-- R61: a pixel in range is held at entry `y*128 + x`.  That this is `{y[5:0], x[6:0]}` is R61's own inference from R6, and that no
two pixels in range share an entry follows from it. -/
def Obligations.EntryIndexIsRowMajor : Prop :=
  ∀ x y x' y' : Coord, inRange x y = true → inRange x' y' = true →
    (entryIndex x y).toNat = y.toNat * 128 + x.toNat ∧
    entryIndex x y = y.extractLsb' 0 6 ++ x.extractLsb' 0 7 ∧
    (entryIndex x y = entryIndex x' y' → x = x' ∧ y = y')

/-! ## Host commands -/

/-- R103: SETPX completes in every IDLE state.  In range it writes the one entry of the back buffer; out of range it writes none.
Every other entry, register, line and controller register is kept; the latched command is the model's reading of R239 (log entry 14). -/
def Obligations.SetpxWritesOneBackEntry : Prop :=
  ∀ (s : State) (x y : Coord) (g : Gray), s.phase = .idle → s.MemoryOk →
    ∃ t, exec (.setpx x y g) s = .next t ∧
      (∀ b i, t.entry b i = if inRange x y = true ∧ b = s.front ^^^ 1#1 ∧ i = entryIndex x y then g ++ g else s.entry b i) ∧
      (inRange x y = false → t.mem = s.mem) ∧
      t = { s with mem := t.mem, cur := ⟨0b00#2, x, y, g⟩, rsp := ⟨0b00#2, false⟩, phase := .respond }

/-- R73: setting one pixel twice to one level leaves the state that setting it once leaves. -/
def Obligations.SetPixelIsIdempotent : Prop :=
  ∀ (s : State) (x y : Coord) (g : Gray), s.MemoryOk → (s.setPixel x y g).setPixel x y g = s.setPixel x y g

/-- R104: CLEAR is accepted in every IDLE state and starts the fill.  It keeps everything but PHASE, CLR_IDX and the fields it
latches (log entry 14). -/
def Obligations.ClearStartsTheFill : Prop :=
  ∀ (s : State) (g : Gray), s.phase = .idle →
    exec (.clear g) s =
      .next { s with phase := .clearing, clrIdx := 0#14, cur := { s.cur with op := 0b01#2, gray := g } }

/-- R104: at each edge of CLEARING the next entries of the back buffer take the gray level, as many as the edge gets done (R240, log
entry 18), and the command answers (0b01, 0) once all 8192 have; nothing else changes. -/
def Obligations.ClearEdgeFillsTheNextEntries : Prop :=
  ∀ (s : State) (e : Edge) (es : List Edge), s.quiet → s.coming = e :: es → e.rstN = true → s.phase = .clearing → s.MemoryOk →
    ∃ t, step s = .next t ∧
      (∀ b i, t.entry b i =
        if b = s.back ∧ s.clrIdx.toNat ≤ i.toNat ∧ i.toNat < s.clrIdx.toNat + s.pace e then entryOf s.cur.gray else s.entry b i) ∧
      (s.clrIdx.toNat + s.pace e < 8192 → t.phase = .clearing ∧ t.clrIdx.toNat = s.clrIdx.toNat + s.pace e ∧ t.rsp = s.rsp) ∧
      (8192 ≤ s.clrIdx.toNat + s.pace e → t.phase = .respond ∧ t.rsp = ⟨0b01#2, false⟩) ∧
      t = { s with mem := t.mem, clrIdx := t.clrIdx, phase := t.phase, rsp := t.rsp, coming := es, tick := s.tick + 1,
                   stalled := t.stalled }

/-- R104, R73: a whole CLEAR from any IDLE state fills the back buffer with one level, leaves the front buffer and everything else
of the block and the controller alone, makes no transport, line or delay event, and answers (0b01, 0). -/
def Obligations.ClearRunsToItsAnswer : Prop :=
  ∀ (s : State) (w : HostWord) (rest : List Edge), s.phase = .idle → s.inbox = [] → s.MemoryOk → wordOp w = 0b01#2 →
    s.coming = offerEdge w :: (List.replicate 8192 goEdge ++ rest) →
    ∃ t, runs 8193 s = .next t ∧
      (∀ i, t.entry s.back i = entryOf (wordGray w)) ∧ (∀ i, t.entry s.front i = s.entry s.front i) ∧ t.MemoryOk ∧
      t.trace = s.trace ++ [.cmd w] ∧
      t = { s with mem := t.mem, clrIdx := t.clrIdx, phase := .respond, rsp := ⟨0b01#2, false⟩, cur := t.cur, coming := rest,
                   tick := t.tick, trace := t.trace, stalled := t.stalled }

/-- R123, R130: INIT is accepted in every IDLE state, clears INIT_DONE and starts the sequence at step 0; it keeps the rest. -/
def Obligations.InitStartsItsSequence : Prop :=
  ∀ s : State, s.phase = .idle →
    exec .init s = .next { s with phase := .initSeq, stepPtr := 0#6, initDone := false, cur := { s.cur with op := 0b10#2 } }

/-- R140, R146: FLUSH is accepted in every IDLE state, whatever INIT_DONE is, and starts the sequence at step 0; it keeps the rest. -/
def Obligations.FlushStartsItsSequence : Prop :=
  ∀ s : State, s.phase = .idle →
    exec .flush s = .next { s with phase := .flushSeq, stepPtr := 0#6, cur := { s.cur with op := 0b11#2 } }

/-- R22, R209: outside IDLE no host command has any effect; it waits. -/
def Obligations.HostCommandWaitsUnlessIdle : Prop :=
  ∀ (s : State) (x y : Coord) (g : Gray), s.phase ≠ .idle →
    exec (.setpx x y g) s = .next s ∧ exec (.clear g) s = .next s ∧ exec .init s = .next s ∧ exec .flush s = .next s

/-! ## The sequences -/

/-- R124: the INIT sequence is these 36 steps in this order, at every value of the configuration constants, whose defaults are the
table's.  The default 0x91 of CLKDIV_ARG is PRESUMED (log entry 21): R124 marks it as general knowledge; START_LINE_ARG and OFFSET_ARG
are decision D15, and the other literals are unaudited. -/
def Obligations.InitSequenceIsTheTable : Prop :=
  (∀ c : Config, initSequence c =
    [.rst true, .rst false, .dly c.tRstLow, .rst true, .dly c.tRstHold,
     .cmd 0xB3#8, .dat [c.clkDivArg], .cmd 0xCA#8, .dat [c.muxArg],
     .cmd 0x15#8, .dat [c.colStart, c.colEnd], .cmd 0x75#8, .dat [c.rowStart, c.rowEnd],
     .cmd 0xA1#8, .dat [c.startLineArg], .cmd 0xA2#8, .dat [c.offsetArg],
     .cmd 0xA0#8, .dat [c.remapA, c.remapB], .cmd 0xA6#8, .cmd 0xAE#8,
     .cmd 0xB4#8, .dat [c.enhA1, c.enhA2], .cmd 0xD1#8, .dat [c.enhB1, c.enhB2],
     .cmd 0x15#8, .dat [c.colStart, c.colEnd], .cmd 0x75#8, .dat [c.rowStart, c.rowEnd], .cmd 0x5C#8,
     .dc true, .swap, .payload, .cmd 0xAF#8, .dly c.tOnSettle, .done] ∧ (initSequence c).length = 36) ∧
  Config.default = ⟨0x1C#8, 0x5B#8, 0x00#8, 0x3F#8, 10#16, 300#16, 200#16, 0x3F#8, 0x16#8, 0x11#8, 0xA0#8, 0xFD#8, 0x82#8, 0x20#8,
    0x91#8, 0x00#8, 0x00#8⟩

/-- R141: the FLUSH sequence is these 9 steps in this order; R127's steps 25 to 32 of INIT are its steps 0 to 7. -/
def Obligations.FlushSequenceIsTheTable : Prop :=
  (∀ c : Config, flushSequence c =
    [.cmd 0x15#8, .dat [c.colStart, c.colEnd], .cmd 0x75#8, .dat [c.rowStart, c.rowEnd], .cmd 0x5C#8, .dc true, .swap, .payload,
     .done] ∧ (flushSequence c).length = 9) ∧
  (∀ (c : Config) (k : Nat), k < 8 → (initSequence c)[25 + k]? = (flushSequence c)[k]?) ∧
  Config.default.colStart = 0x1C#8 ∧ Config.default.colEnd = 0x5B#8 ∧ Config.default.rowStart = 0x00#8 ∧
  Config.default.rowEnd = 0x3F#8

/-- R90, R91: RST and DC drive their line at once and move STEP on; a level that does not change makes no event (R13).  A reset line
that falls leaves the controller's registers free (log entry 6). -/
def Obligations.LineStepsCompleteAtOnce : Prop :=
  ∀ (s : State) (e : Edge) (es : List Edge) (l : Bool), s.quiet → s.coming = e :: es → e.rstN = true → e.work ≠ 0 →
    s.phase = .initSeq ∨ s.phase = .flushSeq → s.wr.active = false → s.dly.active = false →
    (s.currentStep = some (.rst l) → ∃ t, step s = .next t ∧ t.rstLvl = l ∧ t.stepPtr = s.stepPtr + 1#6 ∧
      t.trace = s.trace ++ (if s.rstLvl = l then [] else [.rst l]) ∧
      t = { s with rstLvl := l, stepPtr := t.stepPtr, trace := t.trace, ctrl := t.ctrl, inbox := t.inbox, coming := es,
                   tick := s.tick + 1, stalled := 0 } ∧
      (¬ (s.rstLvl = true ∧ l = false) → t.ctrl = s.ctrl ∧ t.inbox = s.inbox)) ∧
    (s.currentStep = some (.dc l) → ∃ t, step s = .next t ∧ t.dcLvl = l ∧ t.stepPtr = s.stepPtr + 1#6 ∧
      t.trace = s.trace ++ (if s.dcLvl = l then [] else [.dc l]) ∧
      t = { s with dcLvl := l, stepPtr := t.stepPtr, trace := t.trace, coming := es, tick := s.tick + 1, stalled := 0 })

/-- R90, R91, R92, R160: CMD drives DC low and starts a one-byte write, DAT drives DC high and starts a write of its bytes, PAYLOAD
starts a write of 8192 bytes under DC = 1 and leaves the DC line alone.  STEP stays until the write is answered.  The edge starts the step
if it gets work done, or if the bound on idle edges forces it (log entry 18). -/
def Obligations.WriteStepsStartTheirWrite : Prop :=
  ∀ (s : State) (e : Edge) (es : List Edge), s.quiet → s.coming = e :: es → e.rstN = true → s.pace e ≠ 0 →
    s.phase = .initSeq ∨ s.phase = .flushSeq → s.wr.active = false → s.dly.active = false →
    (∀ c, s.currentStep = some (.cmd c) → ∃ t, step s = .next t ∧
      t = { s with dcLvl := false, wr := ⟨true, false, 1#14, 0#14, leavesGap e 0⟩, coming := es, tick := s.tick + 1, stalled := 0,
                   trace := s.trace ++ (if s.dcLvl = false then [] else [.dc false]) }) ∧
    (∀ ds, s.currentStep = some (.dat ds) → ∃ t, step s = .next t ∧
      t = { s with dcLvl := true, wr := ⟨true, true, BitVec.ofNat 14 ds.length, 0#14, leavesGap e 0⟩, coming := es, tick := s.tick + 1, stalled := 0,
                   trace := s.trace ++ (if s.dcLvl = true then [] else [.dc true]) }) ∧
    (s.currentStep = some .payload → ∃ t, step s = .next t ∧
      t = { s with wr := ⟨true, true, 8192#14, 0#14, leavesGap e 0⟩, coming := es, tick := s.tick + 1, stalled := 0 })

/-- R105, R129, R140: SWAP toggles FRONT, keeps both buffers and moves STEP on; DONE answers with success, and INIT's DONE sets
INIT_DONE. -/
def Obligations.SwapAndDoneCompleteAtOnce : Prop :=
  ∀ (s : State) (e : Edge) (es : List Edge), s.quiet → s.coming = e :: es → e.rstN = true → e.work ≠ 0 →
    s.wr.active = false → s.dly.active = false →
    (s.phase = .initSeq ∨ s.phase = .flushSeq → s.currentStep = some .swap →
      step s = .next { s with front := s.front ^^^ 1#1, stepPtr := s.stepPtr + 1#6, trace := s.trace ++ [.swap], coming := es,
                              tick := s.tick + 1, stalled := 0 }) ∧
    (s.phase = .initSeq → s.currentStep = some .done →
      step s = .next { s with initDone := true, rsp := ⟨0b10#2, false⟩, phase := .respond, coming := es, tick := s.tick + 1, stalled := 0 }) ∧
    (s.phase = .flushSeq → s.currentStep = some .done →
      step s = .next { s with rsp := ⟨0b11#2, false⟩, phase := .respond, coming := es, tick := s.tick + 1, stalled := 0 })

/-- R120, R121: a DLY step raises the request with its value, keeps both until `dly_done`, then drops the request and completes;
while it waits nothing else changes.  An edge on which the block does not yet start it only counts as such (R240, log entry 18). -/
def Obligations.DelayIsRequestedHeldAndEnded : Prop :=
  ∀ (s : State) (e : Edge) (es : List Edge) (n : Millis), s.quiet → s.coming = e :: es → e.rstN = true →
    s.phase = .initSeq ∨ s.phase = .flushSeq → s.wr.active = false → s.currentStep = some (.dly n) →
    (s.dly.active = false → e.work ≠ 0 →
      step s = .next { s with dly := ⟨true, n⟩, coming := es, tick := s.tick + 1, stalled := 0 }) ∧
    (s.dly.active = false → s.pace e = 0 →
      step s = .next { s with coming := es, tick := s.tick + 1, stalled := s.stalled + 1 }) ∧
    (s.dly.active = true → e.dlyDone = false → step s = .next { s with coming := es, tick := s.tick + 1 }) ∧
    (s.dly.active = true → e.dlyDone = true →
      step s = .next { s with dly := ⟨false, s.dly.ms⟩, stepPtr := s.stepPtr + 1#6, trace := s.trace ++ [.dly s.dly.ms],
                              coming := es, tick := s.tick + 1 })

/-! ## The serializer -/

/-- R162: a byte on offer is held until the transport takes it, and WR_POS then moves by one; in a gap nothing is accepted.  The DC
line, STEP and everything else stay.  Where gaps fall, and that they are bounded, are log entries 26 and 18. -/
def Obligations.OfferedByteIsHeldUntilTaken : Prop :=
  ∀ (s : State) (e : Edge) (es : List Edge) (st : SeqStep), s.quiet → s.coming = e :: es → e.rstN = true →
    s.phase = .initSeq ∨ s.phase = .flushSeq → s.currentStep = some st → s.wr.active = true → s.wr.unsent = true →
    (e.txRespValid = false ∨ e.txRespErr = false) →
    (s.wr.gap = false → e.txReady = false → step s = .next { s with coming := es, tick := s.tick + 1 }) ∧
    (s.wr.gap = false → e.txReady = true →
      step s = .next { s with wr := ⟨true, s.wr.dc, s.wr.len, s.wr.pos + 1#14, leavesGap e 0⟩, coming := es,
                              tick := s.tick + 1, stalled := 0 }) ∧
    (s.wr.gap = true →
      step s = .next { s with wr := ⟨true, s.wr.dc, s.wr.len, s.wr.pos, leavesGap e (s.stalled + 1)⟩, coming := es,
                              tick := s.tick + 1, stalled := s.stalled + 1 })

/-- R162: while a byte is on offer the port shows it: `tx_data` is the write's byte at WR_POS, `tx_last` marks the last one, and
`dc_o` is the write's level (R161). -/
def Obligations.PortOffersTheWritesByte : Prop :=
  ∀ (s : State) (rstN : Bool), s.SequencerOk → (s.ports rstN).txValid = true →
    ∃ st, s.currentStep = some st ∧ (s.writeBytes st)[s.wr.pos.toNat]? = some (s.ports rstN).txData ∧
      ((s.ports rstN).txLast = true ↔ s.wr.pos.toNat + 1 = (s.writeBytes st).length) ∧
      (s.ports rstN).dcO = st.writeDc

/-- R120, R165: an answer that no request or write waits for is ignored: a success response before the last byte was accepted, any
response while no write is active, and `dly_done` while `dly_req` = 0.  The first two are runs in which the transport breaks its duty:
D24 and I6 put them outside the environment, and the model follows R165's words there (log entry 20).  Both steps are at one `tick`,
so where the controller's registers become unknown both read one free value (log entry 3). -/
def Obligations.UntimelyAnswersAreIgnored : Prop :=
  ∀ (s : State) (e : Edge) (es : List Edge) (r d : Bool), s.quiet →
    (s.wr.unsent = true →
      step (s.setComing ({ e with txRespValid := true, txRespErr := false } :: es)) =
        step (s.setComing ({ e with txRespValid := false, txRespErr := r } :: es))) ∧
    (s.wr.active = false →
      step (s.setComing ({ e with txRespValid := true, txRespErr := r } :: es)) =
        step (s.setComing ({ e with txRespValid := false, txRespErr := r } :: es))) ∧
    (s.dly.active = false →
      step (s.setComing ({ e with dlyDone := d } :: es)) = step (s.setComing (e :: es)))

/-- R163: after the last byte the block waits for the response, and success completes the step.  That the controller has then
received every byte is log entry 10. -/
def Obligations.SuccessfulWriteCompletesItsStep : Prop :=
  ∀ (s : State) (e : Edge) (es : List Edge) (st : SeqStep), s.quiet → s.coming = e :: es → e.rstN = true →
    s.phase = .initSeq ∨ s.phase = .flushSeq → s.currentStep = some st → s.wr.active = true → s.wr.unsent = false →
    (e.txRespValid = false → step s = .next { s with coming := es, tick := s.tick + 1 }) ∧
    (e.txRespValid = true → e.txRespErr = false →
      step s = .next { s with wr := { s.wr with active := false }, stepPtr := s.stepPtr + 1#6,
                              trace := s.trace ++ [.wr s.wr.dc (s.writeBytes st) true],
                              inbox := s.inbox ++ (s.writeBytes st).map (fun b => ⟨s.wr.dc, b⟩),
                              coming := es, tick := s.tick + 1 })

/-- R164, R169, R201: an error response, before or after the last byte, ends the write and the command at once: WR_ACTIVE falls,
the answer is (CUR_OP, 1), STEP keeps the failing step, and the controller received some prefix of the bytes. -/
def Obligations.FailedWriteRaisesTransportError : Prop :=
  ∀ (s : State) (e : Edge) (es : List Edge) (st : SeqStep), s.quiet → s.coming = e :: es → e.rstN = true →
    s.phase = .initSeq ∨ s.phase = .flushSeq → s.currentStep = some st → s.wr.active = true →
    e.txRespValid = true → e.txRespErr = true →
    ∃ t, step s = .next t ∧ t.wr.active = false ∧ t.rsp = ⟨s.cur.op, true⟩ ∧ t.phase = .respond ∧ t.stepPtr = s.stepPtr ∧
      t.trace = s.trace ++ [.wr s.wr.dc (s.writeBytes st) false] ∧
      t.inbox = s.inbox ++ ((s.writeBytes st).take e.received).map (fun b => ⟨s.wr.dc, b⟩) ∧
      t = { s with wr := t.wr, rsp := t.rsp, phase := .respond, trace := t.trace, inbox := t.inbox, coming := es,
                   tick := s.tick + 1, stalled := t.stalled }

/-- R161: neither line changes while a write is in progress, whatever the edge brings, but for the block's reset. -/
def Obligations.LinesHoldDuringAWrite : Prop :=
  ∀ s t : State, s.wr.active = true → s.edge.rstN = true → step s = .next t → t.dcLvl = s.dcLvl ∧ t.rstLvl = s.rstLvl

/-- R87, R167, R170, R180: every write the block makes is the current step's, under its DC level and with exactly its bytes.  It has
one of the three forms; a byte sent under DC = 0 is one of the 13, and a write of 8192 bytes is the payload. -/
def Obligations.EveryWriteHasAForm : Prop :=
  ∀ (s t : State) (dc : Bool) (bytes : List Byte) (ok : Bool), s.SequencerOk → step s = .next t →
    t.trace = s.trace ++ [.wr dc bytes ok] →
    wellFormedWrite dc bytes = true ∧
      ∃ st, s.currentStep = some st ∧ dc = st.writeDc ∧ bytes = s.writeBytes st ∧ (bytes.length = 8192 → st = .payload)

/-- R147, R65: the payload is the 8192 entries of the front buffer, entry 0 first. -/
def Obligations.PayloadIsTheFrontBuffer : Prop :=
  ∀ s : State, s.payload.length = 8192 ∧ ∀ i : EntryIndex, s.payload[i.toNat]? = some (s.entry s.front i)

/-! ## Responses, ports and reset -/

/-- R23, R204, R210: in RESPOND nothing happens until the host takes the response; then the block is IDLE.  No write, delay or line
change follows an error. -/
def Obligations.RespondOnlyAnswers : Prop :=
  ∀ (s : State) (e : Edge) (es : List Edge), s.quiet → s.coming = e :: es → e.rstN = true → s.phase = .respond →
    (e.rspReady = false → step s = .next { s with coming := es, tick := s.tick + 1 }) ∧
    (e.rspReady = true →
      step s = .next { s with phase := .idle, trace := s.trace ++ [.rsp s.rsp.op s.rsp.err], coming := es, tick := s.tick + 1 })

/-- R22 to R27, R162, R230: the output ports at both levels of `rst_n`.  The status outputs, the lines, the response and `dly_ms` are
their registers; the four handshake outputs are 0 while `rst_n` = 0 and follow the state otherwise.  A byte is on offer exactly while
a write has bytes unsent and leaves no gap (the gap bit is the model's own, log entry 26): `tx_data` is then the byte at WR_POS and
`tx_last` marks the last. -/
def Obligations.PortsFollowTheRegisters : Prop :=
  ∀ (s : State) (rstN : Bool),
    (s.ports rstN).readyO = s.initDone ∧ ((s.ports rstN).busyO = true ↔ s.phase ≠ .idle) ∧ (s.ports rstN).frontO = s.front ∧
    (s.ports rstN).dcO = s.dcLvl ∧ (s.ports rstN).rstO = s.rstLvl ∧ (s.ports rstN).rspOp = s.rsp.op ∧
    (s.ports rstN).rspErr = s.rsp.err ∧ (s.ports rstN).dlyMs = s.dly.ms ∧
    ((s.ports rstN).cmdReady = true ↔ rstN = true ∧ s.phase = .idle) ∧
    ((s.ports rstN).rspValid = true ↔ rstN = true ∧ s.phase = .respond) ∧
    ((s.ports rstN).dlyReq = true ↔ rstN = true ∧ s.dly.active = true) ∧
    ((s.ports rstN).txValid = true ↔
      rstN = true ∧ s.wr.active = true ∧ s.wr.pos.toNat < s.wr.len.toNat ∧ s.wr.gap = false) ∧
    ((s.ports rstN).txValid = true →
      (∀ st, s.currentStep = some st → (s.ports rstN).txData = s.writeByte s.wr.pos.toNat st) ∧
      ((s.ports rstN).txLast = true ↔ s.wr.pos.toNat + 1 = s.wr.len.toNat))

/-- R206, R209, R230, R231, R232: an edge with `rst_n` = 0 overrides everything: every register takes its reset value, the four
handshake outputs are 0, no response is given, and the command in progress is gone.  The entries follow with the fill. -/
def Obligations.ResetOverridesEverything : Prop :=
  ∀ (s : State) (e : Edge) (es : List Edge), s.quiet → s.coming = e :: es → e.rstN = false →
    ∃ t, step s = .next t ∧
      (t.front = 0#1 ∧ t.initDone = false ∧ t.phase = .filling ∧ t.stepPtr = 0#6 ∧ t.rsp = ⟨0b00#2, false⟩ ∧
        t.rstLvl = true ∧ t.dcLvl = false ∧ t.wr = ⟨false, false, 0#14, 0#14, false⟩ ∧ t.dly = ⟨false, 0#16⟩ ∧
        t.clrIdx = 0#14 ∧ t.cur = ⟨0b00#2, 0#32, 0#32, 0#4⟩) ∧
      t.mem = s.mem ∧ t.cfg = s.cfg ∧ t.coming = es ∧
      (s.wr.active = false → t.ctrl = s.ctrl ∧ t.inbox = s.inbox) ∧
      (∀ op err, Event.rsp op err ∉ t.trace.drop s.trace.length) ∧
      (∀ u : State, (u.ports false).cmdReady = false ∧ (u.ports false).rspValid = false ∧ (u.ports false).txValid = false ∧
        (u.ports false).dlyReq = false)

/-- R231, R33: the state right after reset. -/
def Obligations.ResetStateIsTheTable : Prop :=
  (∀ b i, State.reset.entry b i = 0x00#8) ∧ State.reset.front = 0#1 ∧ State.reset.initDone = false ∧
  State.reset.phase = .filling ∧ State.reset.stepPtr = 0#6 ∧ State.reset.rsp = ⟨0b00#2, false⟩ ∧
  State.reset.rstLvl = true ∧ State.reset.dcLvl = false ∧
  State.reset.wr.active = false ∧ State.reset.wr.dc = false ∧ State.reset.wr.len = 0#14 ∧ State.reset.wr.pos = 0#14 ∧
  State.reset.dly = ⟨false, 0#16⟩ ∧ State.reset.clrIdx = 0#14 ∧ State.reset.cur = ⟨0b00#2, 0#32, 0#32, 0#4⟩

/-- R230: no command is accepted before every entry reads 0x00: an edge that ends the fill leaves no entry listed. -/
def Obligations.FillEndsWithEveryEntryZero : Prop :=
  ∀ s t : State, s.MemoryOk → s.FillOk → s.phase = .filling → step s = .next t → t.phase = .idle → t.mem = []

/-- R230: from the reset of any legal memory, 16384 edges of the fill lead to IDLE with every entry 0x00 and nothing else changed. -/
def Obligations.FillRunsToIdle : Prop :=
  ∀ (s : State) (rest : List Edge), s.phase = .filling → s.clrIdx = 0#14 → s.inbox = [] → s.MemoryOk →
    s.coming = List.replicate 16384 goEdge ++ rest →
    runs 16384 s = .next { s with phase := .idle, mem := [], coming := rest, tick := s.tick + 16384, stalled := 0 }

/-! ## Whole-machine rules -/

/-- R29, R105: FRONT changes only at a SWAP step, which toggles it, or at the block's reset. -/
def Obligations.FrontChangesOnlyBySwap : Prop :=
  ∀ s t : State, step s = .next t → t.front ≠ s.front →
    (s.currentStep = some .swap ∧ t.front = s.front ^^^ 1#1) ∨ (s.edge.rstN = false ∧ t.front = 0#1)

/-- R31: INIT_DONE is cleared when an INIT is accepted or the block is reset, and set only by the DONE step of INIT. -/
def Obligations.InitDoneChangesOnlyByInit : Prop :=
  ∀ s t : State, step s = .next t → t.initDone ≠ s.initDone →
    (t.initDone = true ∧ s.phase = .initSeq ∧ s.currentStep = some .done) ∨
    (t.initDone = false ∧ s.phase = .idle ∧ t.phase = .initSeq) ∨
    (t.initDone = false ∧ s.edge.rstN = false)

/-- R91, R36: only RST steps (and reset) change the reset line; only CMD, DAT and DC steps (and reset) change the DC line. -/
def Obligations.LinesChangeOnlyAtTheirSteps : Prop :=
  ∀ s t : State, step s = .next t → s.edge.rstN = true →
    (t.rstLvl ≠ s.rstLvl → ∃ l, s.currentStep = some (.rst l)) ∧
    (t.dcLvl ≠ s.dcLvl → (∃ c, s.currentStep = some (.cmd c)) ∨ (∃ ds, s.currentStep = some (.dat ds)) ∨
      (∃ l, s.currentStep = some (.dc l)))

/-- R37: STEP advances by exactly 1 or stays, but is set to 0 when INIT or FLUSH is accepted and at reset. -/
def Obligations.StepPointerMovesByOne : Prop :=
  ∀ s t : State, step s = .next t →
    t.stepPtr = s.stepPtr ∨
    (t.stepPtr = s.stepPtr + 1#6 ∧ (s.phase = .initSeq ∨ s.phase = .flushSeq)) ∨
    (t.stepPtr = 0#6 ∧ s.phase = .idle ∧ (t.phase = .initSeq ∨ t.phase = .flushSeq)) ∨
    (t.stepPtr = 0#6 ∧ s.edge.rstN = false)

/-- R22, R236: a step only adds to the trace, and it adds a command only from IDLE; no step changes the configuration. -/
def Obligations.CommandsAreTakenOnlyWhenIdle : Prop :=
  ∀ s t : State, step s = .next t → t.cfg = s.cfg ∧
    ∃ added, t.trace = s.trace ++ added ∧ ∀ w, Event.cmd w ∈ added → s.phase = .idle ∧ s.edge.cmdValid = true ∧ s.edge.cmdWord = w

/-- R72, R101, R149: but for the reset fill, no step changes an entry of the buffer that is front.  At an edge with `rst_n` = 0 this rests on log
entry 13: the fill that follows zeroes the entries, not that edge. -/
def Obligations.FrontBufferIsNeverWritten : Prop :=
  ∀ s t : State, s.MemoryOk → s.phase ≠ .filling → step s = .next t → ∀ i, t.entry s.front i = s.entry s.front i

/-- R40: the block cannot read the controller: with other registers there, every step does the same to everything else. -/
def Obligations.BlockNeverReadsTheController : Prop :=
  ∀ (s t : State) (r : CtrlRegs), s.quiet → step s = .next t → ∃ r', step (s.setCtrl r) = .next (t.setCtrl r')

/-! ## Invariants -/

/-- Every step keeps the frame store's canonical form. -/
def Obligations.MemoryStaysCanonical : Prop := ∀ s t : State, s.MemoryOk → step s = .next t → t.MemoryOk

/-- R32: every step keeps every entry's two nibbles equal. -/
def Obligations.NibblesStayEqual : Prop :=
  ∀ s t : State, s.MemoryOk → s.NibblesEqual → step s = .next t → t.NibblesEqual

/-- R37, R86, R91, R120, R160, R161: every step keeps the sequencer, the serializer and the delay port in agreement. -/
def Obligations.SequencerStaysConsistent : Prop := ∀ s t : State, s.SequencerOk → step s = .next t → t.SequencerOk

/-- R104, R230: every step keeps the account of what the two fills have done. -/
def Obligations.FillsKeepTheirAccount : Prop :=
  ∀ s t : State, s.MemoryOk → s.FillOk → step s = .next t → t.FillOk

/-- The reset state is legal. -/
def Obligations.ResetIsLegal : Prop := State.reset.Legal

/-- From every legal state the machine goes on, whatever the world brings, to a legal state: no fault, no refusal.  And it gets on
(R240, R241): while the controller acts it uses up what it has received; at an edge with `rst_n` = 1 a working block lowers its rank
unless it waits for the transport or the delay provider, and keeps its rank while it waits.  So SETPX, CLEAR and the reset fill always
end, and INIT and FLUSH end when the world keeps the duties of R234.  That one unknown bound holds for every stall is log entry 18. -/
def Obligations.LegalStatesNeverStop : Prop :=
  ∀ s : State, s.Legal → ∃ t, step s = .next t ∧ t.Legal ∧
    (¬ s.quiet → t.rank = s.rank ∧ t.phase = s.phase ∧ t.inbox.length < s.inbox.length) ∧
    (s.quiet → s.edge.rstN = true → s.working →
      (s.waitsForWorld s.edge = true → t.rank = s.rank ∧ t.phase = s.phase) ∧
      (s.waitsForWorld s.edge = false → t.rank < s.rank))

/-! ## Whole commands -/

/-- R145, R147, R148: with every write answered `ok`, a FLUSH from any IDLE state makes the trace of R148 with the back buffer as
payload, makes that buffer front, keeps both buffers and INIT_DONE, leaves the DC line at data, and answers (0b11, 0).  The
controller ends with the window programmed and the frame in its RAM (log entries 10 and 24). -/
def Obligations.FlushRunsToItsAnswer : Prop :=
  ∀ (s : State) (w : HostWord) (rest : List Edge), s.phase = .idle → s.inbox = [] → s.wr.active = false → s.dly.active = false →
    wordOp w = 0b11#2 → s.coming = offerEdge w :: (sequenceEdges (flushSequence s.cfg) ++ rest) →
    ∃ n t, runs n s = .next t ∧ t.phase = .respond ∧ t.rsp = ⟨0b11#2, false⟩ ∧ t.front = s.front ^^^ 1#1 ∧ t.mem = s.mem ∧
      t.initDone = s.initDone ∧ t.dcLvl = true ∧ t.rstLvl = s.rstLvl ∧ t.stepPtr = 8#6 ∧
      t.trace = s.trace ++ [.cmd w] ++ (if s.dcLvl = true then [.dc false] else []) ++ flushTrace s.cfg (s.frame s.back) ∧
      t.ctrl = { s.ctrl with colStart := s.cfg.colStart, colEnd := s.cfg.colEnd, rowStart := s.cfg.rowStart,
                             rowEnd := s.cfg.rowEnd, ramOpen := true, ramFresh := false, ram := s.frame s.back } ∧
      t.inbox = [] ∧ t.coming = rest

/-- R124, R129, R130, R133: with every write answered `ok` and every delay ended, an INIT from any IDLE state with the reset line high
makes the trace of R133 (from DC_LVL = 1, as after a FLUSH, with one more `DC 0` before its first write), sets INIT_DONE, makes the
buffer it sent front, and answers (0b10, 0).  The controller ends with every register programmed, whatever it held before and had half
received (log entries 6, 10 and 24). -/
def Obligations.InitRunsToReady : Prop :=
  ∀ (s : State) (w : HostWord) (rest : List Edge), s.phase = .idle → s.quiet → s.wr.active = false → s.dly.active = false →
    s.rstLvl = true → wordOp w = 0b10#2 → s.coming = offerEdge w :: (sequenceEdges (initSequence s.cfg) ++ rest) →
    ∃ n t, runs n s = .next t ∧ t.phase = .respond ∧ t.rsp = ⟨0b10#2, false⟩ ∧ t.initDone = true ∧ t.front = s.front ^^^ 1#1 ∧
      t.mem = s.mem ∧ t.rstLvl = true ∧ t.dcLvl = false ∧ t.stepPtr = 35#6 ∧
      t.trace = s.trace ++ [.cmd w] ++ initTrace s.cfg s.dcLvl (s.frame s.back) ∧
      t.ctrl = programmed s.cfg (s.frame s.back) ∧ t.inbox = [] ∧ t.coming = rest

/-- R132, R144, R202, R203: a FLUSH or an INIT whose write at step k fails, after any number of its bytes, answers with the error and
stops at step k.  Its trace is the steps before k and the failing write, and nothing after it.  FRONT is toggled exactly if the SWAP
was before step k: for a FLUSH if k is the payload's step 7, for an INIT if k is the payload's step 32 or step 33 (R203's INIT column
names only 32: log entry 27).  The buffers are kept, the DC line stays at the failing write's level, and INIT_DONE is kept by a FLUSH
and 0 after an INIT.  After a FLUSH that fails before the payload the frame at the controller is unchanged, whatever part of the
write it received (R144; log entries 7 and 24). -/
def Obligations.FailedFlushTogglesFrontOnlyAtThePayload : Prop :=
  ∀ (s : State) (w : HostWord) (rest : List Edge) (k sent received : Nat) (st : SeqStep), s.phase = .idle → s.quiet →
    s.wr.active = false → s.dly.active = false → 0 < st.writeLen → sent ≤ st.writeLen →
    (wordOp w = 0b11#2 → (flushSequence s.cfg)[k]? = some st →
      s.coming = offerEdge w :: (sequenceEdges ((flushSequence s.cfg).take k) ++ bytesEdges sent ++ errEdge received :: rest) →
      ∃ n t, runs n s = .next t ∧ t.quiet ∧ t.phase = .respond ∧ t.rsp = ⟨0b11#2, true⟩ ∧ t.stepPtr.toNat = k ∧
        t.front = (if k = 7 then s.front ^^^ 1#1 else s.front) ∧ t.mem = s.mem ∧ t.initDone = s.initDone ∧
        t.rstLvl = s.rstLvl ∧ t.dcLvl = st.writeDc ∧ t.wr.active = false ∧ t.dly.active = false ∧ t.coming = rest ∧
        t.trace = s.trace ++ [.cmd w] ++
          failedTrace (s.frame s.back) st s.rstLvl s.dcLvl ((flushSequence s.cfg).take k) ∧
        (k ≠ 7 → t.ctrl.ram = s.ctrl.ram)) ∧
    (wordOp w = 0b10#2 → (initSequence s.cfg)[k]? = some st →
      s.coming = offerEdge w :: (sequenceEdges ((initSequence s.cfg).take k) ++ bytesEdges sent ++ errEdge received :: rest) →
      ∃ n t, runs n s = .next t ∧ t.quiet ∧ t.phase = .respond ∧ t.rsp = ⟨0b10#2, true⟩ ∧ t.stepPtr.toNat = k ∧
        t.front = (if k = 32 ∨ k = 33 then s.front ^^^ 1#1 else s.front) ∧ t.mem = s.mem ∧ t.initDone = false ∧
        t.rstLvl = true ∧ t.dcLvl = st.writeDc ∧ t.wr.active = false ∧ t.dly.active = false ∧ t.coming = rest ∧
        t.trace = s.trace ++ [.cmd w] ++
          failedTrace (s.frame s.back) st s.rstLvl s.dcLvl ((initSequence s.cfg).take k))

/-! ## The controller's commands -/

/-- R181, R183: the two window commands: two argument bytes, where they are sent and with what, and the window they program.  Every
other controller register is kept, but that data bytes no longer go to the RAM (log entry 24). -/
def Obligations.WindowCommandsProgramTheWindow : Prop :=
  ∀ (s : State) (c : Config) (a b : Byte),
    exec (.columnAddress a b) s = .next { s with ctrl := { s.ctrl with colStart := a, colEnd := b, ramOpen := false } } ∧
    exec (.rowAddress a b) s = .next { s with ctrl := { s.ctrl with rowStart := a, rowEnd := b, ramOpen := false } } ∧
    (∀ k, (initSequence c)[k]? = some (.cmd 0x15#8) ↔ k = 9 ∨ k = 25) ∧ (∀ k, (flushSequence c)[k]? = some (.cmd 0x15#8) ↔ k = 0) ∧
    (∀ k, (initSequence c)[k]? = some (.cmd 0x75#8) ↔ k = 11 ∨ k = 27) ∧ (∀ k, (flushSequence c)[k]? = some (.cmd 0x75#8) ↔ k = 2) ∧
    (initSequence c)[10]? = some (.dat [c.colStart, c.colEnd]) ∧ (initSequence c)[26]? = some (.dat [c.colStart, c.colEnd]) ∧
    (initSequence c)[12]? = some (.dat [c.rowStart, c.rowEnd]) ∧ (initSequence c)[28]? = some (.dat [c.rowStart, c.rowEnd]) ∧
    (flushSequence c)[1]? = some (.dat [c.colStart, c.colEnd]) ∧ (flushSequence c)[3]? = some (.dat [c.rowStart, c.rowEnd])

/-- R182, R63, R144: Write RAM opens the RAM and leaves its frame; the data bytes that follow go to it, the first of them beginning a
new frame (that the frame is held as the data of the last RAM write is log entry 24).  Data bytes no command asked for leave the
registers free and keep the frame (log entry 7).  A step changes the frame only by data after Write RAM, by a falling reset line (log
entry 6), or by a reset of the block that cuts a write off (I4). -/
def Obligations.WriteRamOpensTheRam : Prop :=
  ∀ (s : State) (c : Config) (bytes : List Byte),
    exec .writeRam s = .next { s with ctrl := { s.ctrl with ramOpen := true, ramFresh := true } } ∧
    (s.ctrl.ramOpen = true → s.takeData bytes =
      { s with ctrl := { s.ctrl with ramFresh := false, ram := if s.ctrl.ramFresh = true then bytes else s.ctrl.ram ++ bytes } }) ∧
    (s.ctrl.ramOpen = false →
      ∃ r, s.takeData bytes = { s with ctrl := r } ∧ r.ram = s.ctrl.ram ∧ r.ramOpen = false) ∧
    (∀ t, step s = .next t → t.ctrl.ram ≠ s.ctrl.ram →
      (s.ctrl.ramOpen = true ∧ ∃ bs rest, readStream s.inbox = .data bs rest) ∨ (s.rstLvl = true ∧ t.rstLvl = false) ∨
      (s.edge.rstN = false ∧ s.wr.active = true)) ∧
    (∀ k, (initSequence c)[k]? = some (.cmd 0x5C#8) ↔ k = 29) ∧ (∀ k, (flushSequence c)[k]? = some (.cmd 0x5C#8) ↔ k = 4)

/-- R184 to R187, R194: mux ratio, remap, clock divider, start line and offset line: where they are sent, with what, and the register
each programs. -/
def Obligations.SetupCommandsProgramTheirRegister : Prop :=
  ∀ (s : State) (c : Config) (a b : Byte),
    exec (.muxRatio a) s = .next { s with ctrl := { s.ctrl with mux := a, ramOpen := false } } ∧
    exec (.remap a b) s = .next { s with ctrl := { s.ctrl with remapA := a, remapB := b, ramOpen := false } } ∧
    exec (.clockDivider a) s = .next { s with ctrl := { s.ctrl with clkDiv := a, ramOpen := false } } ∧
    exec (.startLine a) s = .next { s with ctrl := { s.ctrl with startLine := a, ramOpen := false } } ∧
    exec (.offsetLine a) s = .next { s with ctrl := { s.ctrl with offset := a, ramOpen := false } } ∧
    (∀ k, (initSequence c)[k]? = some (.cmd 0xCA#8) ↔ k = 7) ∧ (initSequence c)[8]? = some (.dat [c.muxArg]) ∧
    (∀ k, (initSequence c)[k]? = some (.cmd 0xA0#8) ↔ k = 17) ∧ (initSequence c)[18]? = some (.dat [c.remapA, c.remapB]) ∧
    (∀ k, (initSequence c)[k]? = some (.cmd 0xB3#8) ↔ k = 5) ∧ (initSequence c)[6]? = some (.dat [c.clkDivArg]) ∧
    (∀ k, (initSequence c)[k]? = some (.cmd 0xA1#8) ↔ k = 13) ∧ (initSequence c)[14]? = some (.dat [c.startLineArg]) ∧
    (∀ k, (initSequence c)[k]? = some (.cmd 0xA2#8) ↔ k = 15) ∧ (initSequence c)[16]? = some (.dat [c.offsetArg])

/-- R188 to R193: the four display modes and display off and on.  INIT sends normal mode, off and on once each; nothing else of them
is ever sent.  That all-pixels-off, all-pixels-on and invert select the mode they name is the model's reading (log entry 8). -/
def Obligations.DisplayCommandsSelectModeAndSwitch : Prop :=
  ∀ (s : State) (c : Config),
    exec .allPixelsOff s = .next { s with ctrl := { s.ctrl with mode := .allPixelsOff, ramOpen := false } } ∧
    exec .allPixelsOn s = .next { s with ctrl := { s.ctrl with mode := .allPixelsOn, ramOpen := false } } ∧
    exec .normalMode s = .next { s with ctrl := { s.ctrl with mode := .normal, ramOpen := false } } ∧
    exec .invertMode s = .next { s with ctrl := { s.ctrl with mode := .invert, ramOpen := false } } ∧
    exec .displayOff s = .next { s with ctrl := { s.ctrl with displayOn := false, ramOpen := false } } ∧
    exec .displayOn s = .next { s with ctrl := { s.ctrl with displayOn := true, ramOpen := false } } ∧
    (∀ k, (initSequence c)[k]? = some (.cmd 0xA6#8) ↔ k = 19) ∧ (∀ k, (initSequence c)[k]? = some (.cmd 0xAE#8) ↔ k = 20) ∧
    (∀ k, (initSequence c)[k]? = some (.cmd 0xAF#8) ↔ k = 33) ∧ (initSequence c)[34]? = some (.dly c.tOnSettle) ∧
    (∀ b : Byte, b = 0xA4#8 ∨ b = 0xA5#8 ∨ b = 0xA7#8 → SeqStep.cmd b ∉ initSequence c) ∧
    (∀ b : Byte, b = 0xA4#8 ∨ b = 0xA5#8 ∨ b = 0xA6#8 ∨ b = 0xA7#8 ∨ b = 0xAE#8 ∨ b = 0xAF#8 → SeqStep.cmd b ∉ flushSequence c)

/-- R195, R196, R126: the two enhancement pairs: where they are sent, with what, and the registers they program. -/
def Obligations.EnhancementCommandsProgramTheirPair : Prop :=
  ∀ (s : State) (c : Config) (a b : Byte),
    exec (.enhancementA a b) s = .next { s with ctrl := { s.ctrl with enhA1 := a, enhA2 := b, ramOpen := false } } ∧
    exec (.enhancementB a b) s = .next { s with ctrl := { s.ctrl with enhB1 := a, enhB2 := b, ramOpen := false } } ∧
    (∀ k, (initSequence c)[k]? = some (.cmd 0xB4#8) ↔ k = 21) ∧ (initSequence c)[22]? = some (.dat [c.enhA1, c.enhA2]) ∧
    (∀ k, (initSequence c)[k]? = some (.cmd 0xD1#8) ↔ k = 23) ∧ (initSequence c)[24]? = some (.dat [c.enhB1, c.enhB2])

/-! ## A step runs the decoded instruction -/

/-- R21, R22, R81: an IDLE block offered a word runs the instruction the word decodes to, on the state that has used up the edge and
recorded the command; offered none, it does nothing. -/
def Obligations.StepRunsTheHostCommand : Prop :=
  ∀ (s : State) (e : Edge) (es : List Edge), s.quiet → s.coming = e :: es → e.rstN = true → s.phase = .idle →
    (e.cmdValid = true → step s = exec (decodeHost e.cmdWord)
      { s with coming := es, tick := s.tick + 1, trace := s.trace ++ [.cmd e.cmdWord] }) ∧
    (e.cmdValid = false → step s = .next { s with coming := es, tick := s.tick + 1 })

/-- R88: a whole command at the controller runs, on the state whose inbox has lost its bytes (log entry 10). -/
def Obligations.StepRunsTheControllerCommand : Prop :=
  ∀ (s : State) (i : Instr) (rest : List BusByte), readStream s.inbox = .command i rest →
    step s = exec i { s with inbox := rest, tick := s.tick + 1 }
end

