-- ==== Sys2Proof/Laws/Memory.lean ====
section
/-! SUPPORT. Laws/Memory: the frame store.  A read after a write gives the value written, a write leaves every other entry alone,
every operation keeps the canonical form, and two frame stores in that form that read alike are equal. -/

namespace Sys2Proof.Machine.Memory

/-- Below the first key nothing is listed. -/
theorem find_eq_zero_of_lt {m : Memory} {lo a : Nat} (h : wfFrom lo m = true) (ha : a < lo) : find m a = 0x00#8 := by
  induction m generalizing lo with
  | nil => rfl
  | cons c rest ih =>
    obtain ⟨k, v⟩ := c
    simp only [wfFrom, Bool.and_eq_true, decide_eq_true_eq] at h
    have hk : k ≠ a := by omega
    simpa [find, hk] using ih h.2 (by omega)

/-- The bound of a canonical form may be lowered. -/
theorem wfFrom_mono {m : Memory} {lo lo' : Nat} (h : wfFrom lo m = true) (hl : lo' ≤ lo) : wfFrom lo' m = true := by
  cases m with
  | nil => rfl
  | cons c rest =>
    obtain ⟨k, v⟩ := c
    simp only [wfFrom, Bool.and_eq_true, decide_eq_true_eq] at h ⊢
    exact ⟨⟨⟨by omega, h.1.1.2⟩, h.1.2⟩, h.2⟩

theorem find_put_self {m : Memory} {lo : Nat} (h : wfFrom lo m = true) (a : Nat) (v : Byte) : find (put m a v) a = v := by
  induction m generalizing lo with
  | nil => by_cases hv : v = 0x00#8 <;> simp [put, find, hv]
  | cons c rest ih =>
    obtain ⟨k, w⟩ := c
    have h' := h
    simp only [wfFrom, Bool.and_eq_true, decide_eq_true_eq] at h'
    rcases Nat.lt_trichotomy k a with hk | hk | hk
    · simp [put, hk, find, show k ≠ a by omega, ih h'.2]
    · subst hk
      by_cases hv : v = 0x00#8
      · simpa [put, hv] using find_eq_zero_of_lt h'.2 (by omega)
      · simp [put, hv, find]
    · by_cases hv : v = 0x00#8
      · have := find_eq_zero_of_lt h'.2 (show a < k + 1 by omega)
        simp [put, hv, find, show ¬ k < a by omega, show k ≠ a by omega, this]
      · simp [put, hv, find, show ¬ k < a by omega, show k ≠ a by omega]

theorem find_put_other {m : Memory} (a b : Nat) (v : Byte) (hab : b ≠ a) : find (put m a v) b = find m b := by
  induction m with
  | nil => by_cases hv : v = 0x00#8 <;> simp [put, find, hv, Ne.symm hab]
  | cons c rest ih =>
    obtain ⟨k, w⟩ := c
    rcases Nat.lt_trichotomy k a with hk | hk | hk
    · simp [put, hk, find, ih]
    · subst hk
      by_cases hv : v = 0x00#8 <;> simp [put, hv, find, Ne.symm hab]
    · by_cases hv : v = 0x00#8 <;>
        simp [put, hv, find, show ¬ k < a by omega, show k ≠ a by omega, Ne.symm hab]

theorem wfFrom_put {m : Memory} {lo a : Nat} {v : Byte} (h : wfFrom lo m = true) (hlo : lo ≤ a) (ha : a < frameEntries) :
    wfFrom lo (put m a v) = true := by
  induction m generalizing lo with
  | nil => by_cases hv : v = 0x00#8 <;> simp [put, wfFrom, hv, hlo, ha]
  | cons c rest ih =>
    obtain ⟨k, w⟩ := c
    have h' := h
    simp only [wfFrom, Bool.and_eq_true, decide_eq_true_eq] at h'
    rcases Nat.lt_trichotomy k a with hk | hk | hk
    · simp only [put, hk, if_true, wfFrom, Bool.and_eq_true, decide_eq_true_eq]
      exact ⟨h'.1, ih h'.2 hk⟩
    · subst hk
      by_cases hv : v = 0x00#8
      · simpa [put, hv] using wfFrom_mono h'.2 (by omega)
      · simp [put, hv, wfFrom, hlo, ha, h'.2]
    · by_cases hv : v = 0x00#8
      · simpa [put, hv, show ¬ k < a by omega, show k ≠ a by omega] using h
      · have := h'.1.1.2
        have hw : (w != 0x00#8) = true := h'.1.2
        simp only [put, hv, show ¬ k < a by omega, show k ≠ a by omega, if_false, wfFrom, Bool.and_eq_true, decide_eq_true_eq]
        exact ⟨⟨⟨hlo, ha⟩, by simpa using hv⟩, ⟨⟨by omega, this⟩, hw⟩, h'.2⟩

/-- A read after a write to the same address. -/
theorem read_write_self {m : Memory} (h : m.wf = true) (a : FrameAddr) (v : Byte) : (m.write a v).read a = v :=
  find_put_self h _ _

/-- A write leaves every other address alone. -/
theorem read_write_other (m : Memory) {a b : FrameAddr} (v : Byte) (hab : b ≠ a) : (m.write a v).read b = m.read b :=
  find_put_other _ _ _ fun h => hab (BitVec.eq_of_toNat_eq h)

/-- A write keeps the canonical form. -/
theorem wf_write {m : Memory} (h : m.wf = true) (a : FrameAddr) (v : Byte) : (m.write a v).wf = true :=
  wfFrom_put h (Nat.zero_le _) a.isLt

/-- A fill keeps the canonical form. -/
theorem wf_fill {m : Memory} (h : m.wf = true) (a : FrameAddr) (v : Byte) (n : Nat) : (m.fill a v n).wf = true := by
  induction n generalizing m a with
  | zero => exact h
  | succ n ih => exact ih (wf_write h a v) _

/-- A fill that does not pass the top of the frame store: it writes its entries and leaves every other alone. -/
theorem read_fill {m : Memory} (h : m.wf = true) (a : FrameAddr) (v : Byte) (n : Nat) (hn : a.toNat + n ≤ frameEntries)
    (b : FrameAddr) :
    (m.fill a v n).read b = if a.toNat ≤ b.toNat ∧ b.toNat < a.toNat + n then v else m.read b := by
  induction n generalizing m a with
  | zero => simp [fill]
  | succ n ih =>
    simp only [frameEntries] at hn ih
    by_cases hn0 : n = 0
    · subst hn0
      by_cases hb : b = a
      · subst hb; simpa [fill] using read_write_self h b v
      · have : b.toNat ≠ a.toNat := fun h => hb (BitVec.eq_of_toNat_eq h)
        rw [if_neg (by omega)]
        exact read_write_other m v hb
    · have h1 : (a + 1#14).toNat = a.toNat + 1 := by
        rw [BitVec.toNat_add]; simp; omega
      rw [fill, ih (wf_write h a v) _ (by omega), h1]
      by_cases hb : b = a
      · subst hb
        simp [read_write_self h]
      · have : b.toNat ≠ a.toNat := fun h => hb (BitVec.eq_of_toNat_eq h)
        rw [read_write_other m v hb]
        congr 1
        exact propext ⟨fun h => by omega, fun h => by omega⟩

/-- The canonical form is canonical: frame stores that read alike are equal. -/
theorem ext_from {m m' : Memory} {lo : Nat} (h : wfFrom lo m = true) (h' : wfFrom lo m' = true)
    (hr : ∀ a, find m a = find m' a) : m = m' := by
  induction m generalizing m' lo with
  | nil =>
    cases m' with
    | nil => rfl
    | cons c rest =>
      obtain ⟨k, v⟩ := c
      simp only [wfFrom, Bool.and_eq_true, bne_iff_ne, ne_eq] at h'
      exact absurd (by simpa [find] using (hr k).symm) h'.1.2
  | cons c rest ih =>
    obtain ⟨k, v⟩ := c
    simp only [wfFrom, Bool.and_eq_true, bne_iff_ne, ne_eq, decide_eq_true_eq] at h
    cases m' with
    | nil => exact absurd (by simpa [find] using hr k) h.1.2
    | cons c' rest' =>
      obtain ⟨k', v'⟩ := c'
      simp only [wfFrom, Bool.and_eq_true, bne_iff_ne, ne_eq, decide_eq_true_eq] at h'
      have hkk : k = k' := by
        rcases Nat.lt_trichotomy k k' with hlt | heq | hlt
        · have h0 := hr k
          simp only [find, if_true, show k' ≠ k by omega, if_false] at h0
          exact absurd (h0.trans (find_eq_zero_of_lt h'.2 (by omega))) h.1.2
        · exact heq
        · have h0 := hr k'
          simp only [find, if_true, show k ≠ k' by omega, if_false] at h0
          exact absurd (h0.symm.trans (find_eq_zero_of_lt h.2 (by omega))) h'.1.2
      subst hkk
      have hv : v = v' := by simpa [find] using hr k
      subst hv
      refine congrArg _ (ih h.2 h'.2 fun a => ?_)
      by_cases ha : k = a
      · subst ha
        rw [find_eq_zero_of_lt h.2 (by omega), find_eq_zero_of_lt h'.2 (by omega)]
      · simpa [find, ha] using hr a

theorem find_eq_zero_of_ge {m : Memory} {lo a : Nat} (h : wfFrom lo m = true) (ha : frameEntries ≤ a) : find m a = 0x00#8 := by
  induction m generalizing lo with
  | nil => rfl
  | cons c rest ih =>
    obtain ⟨k, v⟩ := c
    simp only [wfFrom, Bool.and_eq_true, decide_eq_true_eq] at h
    have hk : k ≠ a := by omega
    simpa [find, hk] using ih h.2

/-- Equal reads, equal frame stores. -/
theorem ext_read {m m' : Memory} (h : m.wf = true) (h' : m'.wf = true) (hr : ∀ a : FrameAddr, m.read a = m'.read a) : m = m' := by
  refine ext_from h h' fun a => ?_
  by_cases ha : a < frameEntries
  · have := hr (BitVec.ofNat 14 a)
    simpa [read, Nat.mod_eq_of_lt (show a < 16384 from ha)] using this
  · rw [find_eq_zero_of_ge h (by omega), find_eq_zero_of_ge h' (by omega)]

end Sys2Proof.Machine.Memory
end

