-- ==== Sys2Proof/Laws/State.lean ====
section
/-! SUPPORT. Laws/State: what each setter writes and what it keeps, one simp lemma per field. -/

namespace Sys2Proof.Machine.State

section
variable (s : State) (v : Memory)
@[simp] theorem setMem_cfg : (s.setMem v).cfg = s.cfg := rfl
@[simp] theorem setMem_mem : (s.setMem v).mem = v := rfl
@[simp] theorem setMem_front : (s.setMem v).front = s.front := rfl
@[simp] theorem setMem_initDone : (s.setMem v).initDone = s.initDone := rfl
@[simp] theorem setMem_phase : (s.setMem v).phase = s.phase := rfl
@[simp] theorem setMem_stepPtr : (s.setMem v).stepPtr = s.stepPtr := rfl
@[simp] theorem setMem_rsp : (s.setMem v).rsp = s.rsp := rfl
@[simp] theorem setMem_rstLvl : (s.setMem v).rstLvl = s.rstLvl := rfl
@[simp] theorem setMem_dcLvl : (s.setMem v).dcLvl = s.dcLvl := rfl
@[simp] theorem setMem_wr : (s.setMem v).wr = s.wr := rfl
@[simp] theorem setMem_dly : (s.setMem v).dly = s.dly := rfl
@[simp] theorem setMem_clrIdx : (s.setMem v).clrIdx = s.clrIdx := rfl
@[simp] theorem setMem_cur : (s.setMem v).cur = s.cur := rfl
@[simp] theorem setMem_ctrl : (s.setMem v).ctrl = s.ctrl := rfl
@[simp] theorem setMem_inbox : (s.setMem v).inbox = s.inbox := rfl
@[simp] theorem setMem_coming : (s.setMem v).coming = s.coming := rfl
@[simp] theorem setMem_tick : (s.setMem v).tick = s.tick := rfl
@[simp] theorem setMem_stalled : (s.setMem v).stalled = s.stalled := rfl
@[simp] theorem setMem_trace : (s.setMem v).trace = s.trace := rfl
end

section
variable (s : State) (v : BitVec 1)
@[simp] theorem setFront_cfg : (s.setFront v).cfg = s.cfg := rfl
@[simp] theorem setFront_mem : (s.setFront v).mem = s.mem := rfl
@[simp] theorem setFront_front : (s.setFront v).front = v := rfl
@[simp] theorem setFront_initDone : (s.setFront v).initDone = s.initDone := rfl
@[simp] theorem setFront_phase : (s.setFront v).phase = s.phase := rfl
@[simp] theorem setFront_stepPtr : (s.setFront v).stepPtr = s.stepPtr := rfl
@[simp] theorem setFront_rsp : (s.setFront v).rsp = s.rsp := rfl
@[simp] theorem setFront_rstLvl : (s.setFront v).rstLvl = s.rstLvl := rfl
@[simp] theorem setFront_dcLvl : (s.setFront v).dcLvl = s.dcLvl := rfl
@[simp] theorem setFront_wr : (s.setFront v).wr = s.wr := rfl
@[simp] theorem setFront_dly : (s.setFront v).dly = s.dly := rfl
@[simp] theorem setFront_clrIdx : (s.setFront v).clrIdx = s.clrIdx := rfl
@[simp] theorem setFront_cur : (s.setFront v).cur = s.cur := rfl
@[simp] theorem setFront_ctrl : (s.setFront v).ctrl = s.ctrl := rfl
@[simp] theorem setFront_inbox : (s.setFront v).inbox = s.inbox := rfl
@[simp] theorem setFront_coming : (s.setFront v).coming = s.coming := rfl
@[simp] theorem setFront_tick : (s.setFront v).tick = s.tick := rfl
@[simp] theorem setFront_stalled : (s.setFront v).stalled = s.stalled := rfl
@[simp] theorem setFront_trace : (s.setFront v).trace = s.trace := rfl
end

section
variable (s : State) (v : Bool)
@[simp] theorem setInitDone_cfg : (s.setInitDone v).cfg = s.cfg := rfl
@[simp] theorem setInitDone_mem : (s.setInitDone v).mem = s.mem := rfl
@[simp] theorem setInitDone_front : (s.setInitDone v).front = s.front := rfl
@[simp] theorem setInitDone_initDone : (s.setInitDone v).initDone = v := rfl
@[simp] theorem setInitDone_phase : (s.setInitDone v).phase = s.phase := rfl
@[simp] theorem setInitDone_stepPtr : (s.setInitDone v).stepPtr = s.stepPtr := rfl
@[simp] theorem setInitDone_rsp : (s.setInitDone v).rsp = s.rsp := rfl
@[simp] theorem setInitDone_rstLvl : (s.setInitDone v).rstLvl = s.rstLvl := rfl
@[simp] theorem setInitDone_dcLvl : (s.setInitDone v).dcLvl = s.dcLvl := rfl
@[simp] theorem setInitDone_wr : (s.setInitDone v).wr = s.wr := rfl
@[simp] theorem setInitDone_dly : (s.setInitDone v).dly = s.dly := rfl
@[simp] theorem setInitDone_clrIdx : (s.setInitDone v).clrIdx = s.clrIdx := rfl
@[simp] theorem setInitDone_cur : (s.setInitDone v).cur = s.cur := rfl
@[simp] theorem setInitDone_ctrl : (s.setInitDone v).ctrl = s.ctrl := rfl
@[simp] theorem setInitDone_inbox : (s.setInitDone v).inbox = s.inbox := rfl
@[simp] theorem setInitDone_coming : (s.setInitDone v).coming = s.coming := rfl
@[simp] theorem setInitDone_tick : (s.setInitDone v).tick = s.tick := rfl
@[simp] theorem setInitDone_stalled : (s.setInitDone v).stalled = s.stalled := rfl
@[simp] theorem setInitDone_trace : (s.setInitDone v).trace = s.trace := rfl
end

section
variable (s : State) (v : Phase)
@[simp] theorem setPhase_cfg : (s.setPhase v).cfg = s.cfg := rfl
@[simp] theorem setPhase_mem : (s.setPhase v).mem = s.mem := rfl
@[simp] theorem setPhase_front : (s.setPhase v).front = s.front := rfl
@[simp] theorem setPhase_initDone : (s.setPhase v).initDone = s.initDone := rfl
@[simp] theorem setPhase_phase : (s.setPhase v).phase = v := rfl
@[simp] theorem setPhase_stepPtr : (s.setPhase v).stepPtr = s.stepPtr := rfl
@[simp] theorem setPhase_rsp : (s.setPhase v).rsp = s.rsp := rfl
@[simp] theorem setPhase_rstLvl : (s.setPhase v).rstLvl = s.rstLvl := rfl
@[simp] theorem setPhase_dcLvl : (s.setPhase v).dcLvl = s.dcLvl := rfl
@[simp] theorem setPhase_wr : (s.setPhase v).wr = s.wr := rfl
@[simp] theorem setPhase_dly : (s.setPhase v).dly = s.dly := rfl
@[simp] theorem setPhase_clrIdx : (s.setPhase v).clrIdx = s.clrIdx := rfl
@[simp] theorem setPhase_cur : (s.setPhase v).cur = s.cur := rfl
@[simp] theorem setPhase_ctrl : (s.setPhase v).ctrl = s.ctrl := rfl
@[simp] theorem setPhase_inbox : (s.setPhase v).inbox = s.inbox := rfl
@[simp] theorem setPhase_coming : (s.setPhase v).coming = s.coming := rfl
@[simp] theorem setPhase_tick : (s.setPhase v).tick = s.tick := rfl
@[simp] theorem setPhase_stalled : (s.setPhase v).stalled = s.stalled := rfl
@[simp] theorem setPhase_trace : (s.setPhase v).trace = s.trace := rfl
end

section
variable (s : State) (v : BitVec 6)
@[simp] theorem setStepPtr_cfg : (s.setStepPtr v).cfg = s.cfg := rfl
@[simp] theorem setStepPtr_mem : (s.setStepPtr v).mem = s.mem := rfl
@[simp] theorem setStepPtr_front : (s.setStepPtr v).front = s.front := rfl
@[simp] theorem setStepPtr_initDone : (s.setStepPtr v).initDone = s.initDone := rfl
@[simp] theorem setStepPtr_phase : (s.setStepPtr v).phase = s.phase := rfl
@[simp] theorem setStepPtr_stepPtr : (s.setStepPtr v).stepPtr = v := rfl
@[simp] theorem setStepPtr_rsp : (s.setStepPtr v).rsp = s.rsp := rfl
@[simp] theorem setStepPtr_rstLvl : (s.setStepPtr v).rstLvl = s.rstLvl := rfl
@[simp] theorem setStepPtr_dcLvl : (s.setStepPtr v).dcLvl = s.dcLvl := rfl
@[simp] theorem setStepPtr_wr : (s.setStepPtr v).wr = s.wr := rfl
@[simp] theorem setStepPtr_dly : (s.setStepPtr v).dly = s.dly := rfl
@[simp] theorem setStepPtr_clrIdx : (s.setStepPtr v).clrIdx = s.clrIdx := rfl
@[simp] theorem setStepPtr_cur : (s.setStepPtr v).cur = s.cur := rfl
@[simp] theorem setStepPtr_ctrl : (s.setStepPtr v).ctrl = s.ctrl := rfl
@[simp] theorem setStepPtr_inbox : (s.setStepPtr v).inbox = s.inbox := rfl
@[simp] theorem setStepPtr_coming : (s.setStepPtr v).coming = s.coming := rfl
@[simp] theorem setStepPtr_tick : (s.setStepPtr v).tick = s.tick := rfl
@[simp] theorem setStepPtr_stalled : (s.setStepPtr v).stalled = s.stalled := rfl
@[simp] theorem setStepPtr_trace : (s.setStepPtr v).trace = s.trace := rfl
end

section
variable (s : State) (v : Response)
@[simp] theorem setRsp_cfg : (s.setRsp v).cfg = s.cfg := rfl
@[simp] theorem setRsp_mem : (s.setRsp v).mem = s.mem := rfl
@[simp] theorem setRsp_front : (s.setRsp v).front = s.front := rfl
@[simp] theorem setRsp_initDone : (s.setRsp v).initDone = s.initDone := rfl
@[simp] theorem setRsp_phase : (s.setRsp v).phase = s.phase := rfl
@[simp] theorem setRsp_stepPtr : (s.setRsp v).stepPtr = s.stepPtr := rfl
@[simp] theorem setRsp_rsp : (s.setRsp v).rsp = v := rfl
@[simp] theorem setRsp_rstLvl : (s.setRsp v).rstLvl = s.rstLvl := rfl
@[simp] theorem setRsp_dcLvl : (s.setRsp v).dcLvl = s.dcLvl := rfl
@[simp] theorem setRsp_wr : (s.setRsp v).wr = s.wr := rfl
@[simp] theorem setRsp_dly : (s.setRsp v).dly = s.dly := rfl
@[simp] theorem setRsp_clrIdx : (s.setRsp v).clrIdx = s.clrIdx := rfl
@[simp] theorem setRsp_cur : (s.setRsp v).cur = s.cur := rfl
@[simp] theorem setRsp_ctrl : (s.setRsp v).ctrl = s.ctrl := rfl
@[simp] theorem setRsp_inbox : (s.setRsp v).inbox = s.inbox := rfl
@[simp] theorem setRsp_coming : (s.setRsp v).coming = s.coming := rfl
@[simp] theorem setRsp_tick : (s.setRsp v).tick = s.tick := rfl
@[simp] theorem setRsp_stalled : (s.setRsp v).stalled = s.stalled := rfl
@[simp] theorem setRsp_trace : (s.setRsp v).trace = s.trace := rfl
end

section
variable (s : State) (v : Bool)
@[simp] theorem setRstLvl_cfg : (s.setRstLvl v).cfg = s.cfg := rfl
@[simp] theorem setRstLvl_mem : (s.setRstLvl v).mem = s.mem := rfl
@[simp] theorem setRstLvl_front : (s.setRstLvl v).front = s.front := rfl
@[simp] theorem setRstLvl_initDone : (s.setRstLvl v).initDone = s.initDone := rfl
@[simp] theorem setRstLvl_phase : (s.setRstLvl v).phase = s.phase := rfl
@[simp] theorem setRstLvl_stepPtr : (s.setRstLvl v).stepPtr = s.stepPtr := rfl
@[simp] theorem setRstLvl_rsp : (s.setRstLvl v).rsp = s.rsp := rfl
@[simp] theorem setRstLvl_rstLvl : (s.setRstLvl v).rstLvl = v := rfl
@[simp] theorem setRstLvl_dcLvl : (s.setRstLvl v).dcLvl = s.dcLvl := rfl
@[simp] theorem setRstLvl_wr : (s.setRstLvl v).wr = s.wr := rfl
@[simp] theorem setRstLvl_dly : (s.setRstLvl v).dly = s.dly := rfl
@[simp] theorem setRstLvl_clrIdx : (s.setRstLvl v).clrIdx = s.clrIdx := rfl
@[simp] theorem setRstLvl_cur : (s.setRstLvl v).cur = s.cur := rfl
@[simp] theorem setRstLvl_ctrl : (s.setRstLvl v).ctrl = s.ctrl := rfl
@[simp] theorem setRstLvl_inbox : (s.setRstLvl v).inbox = s.inbox := rfl
@[simp] theorem setRstLvl_coming : (s.setRstLvl v).coming = s.coming := rfl
@[simp] theorem setRstLvl_tick : (s.setRstLvl v).tick = s.tick := rfl
@[simp] theorem setRstLvl_stalled : (s.setRstLvl v).stalled = s.stalled := rfl
@[simp] theorem setRstLvl_trace : (s.setRstLvl v).trace = s.trace := rfl
end

section
variable (s : State) (v : Bool)
@[simp] theorem setDcLvl_cfg : (s.setDcLvl v).cfg = s.cfg := rfl
@[simp] theorem setDcLvl_mem : (s.setDcLvl v).mem = s.mem := rfl
@[simp] theorem setDcLvl_front : (s.setDcLvl v).front = s.front := rfl
@[simp] theorem setDcLvl_initDone : (s.setDcLvl v).initDone = s.initDone := rfl
@[simp] theorem setDcLvl_phase : (s.setDcLvl v).phase = s.phase := rfl
@[simp] theorem setDcLvl_stepPtr : (s.setDcLvl v).stepPtr = s.stepPtr := rfl
@[simp] theorem setDcLvl_rsp : (s.setDcLvl v).rsp = s.rsp := rfl
@[simp] theorem setDcLvl_rstLvl : (s.setDcLvl v).rstLvl = s.rstLvl := rfl
@[simp] theorem setDcLvl_dcLvl : (s.setDcLvl v).dcLvl = v := rfl
@[simp] theorem setDcLvl_wr : (s.setDcLvl v).wr = s.wr := rfl
@[simp] theorem setDcLvl_dly : (s.setDcLvl v).dly = s.dly := rfl
@[simp] theorem setDcLvl_clrIdx : (s.setDcLvl v).clrIdx = s.clrIdx := rfl
@[simp] theorem setDcLvl_cur : (s.setDcLvl v).cur = s.cur := rfl
@[simp] theorem setDcLvl_ctrl : (s.setDcLvl v).ctrl = s.ctrl := rfl
@[simp] theorem setDcLvl_inbox : (s.setDcLvl v).inbox = s.inbox := rfl
@[simp] theorem setDcLvl_coming : (s.setDcLvl v).coming = s.coming := rfl
@[simp] theorem setDcLvl_tick : (s.setDcLvl v).tick = s.tick := rfl
@[simp] theorem setDcLvl_stalled : (s.setDcLvl v).stalled = s.stalled := rfl
@[simp] theorem setDcLvl_trace : (s.setDcLvl v).trace = s.trace := rfl
end

section
variable (s : State) (v : Writer)
@[simp] theorem setWr_cfg : (s.setWr v).cfg = s.cfg := rfl
@[simp] theorem setWr_mem : (s.setWr v).mem = s.mem := rfl
@[simp] theorem setWr_front : (s.setWr v).front = s.front := rfl
@[simp] theorem setWr_initDone : (s.setWr v).initDone = s.initDone := rfl
@[simp] theorem setWr_phase : (s.setWr v).phase = s.phase := rfl
@[simp] theorem setWr_stepPtr : (s.setWr v).stepPtr = s.stepPtr := rfl
@[simp] theorem setWr_rsp : (s.setWr v).rsp = s.rsp := rfl
@[simp] theorem setWr_rstLvl : (s.setWr v).rstLvl = s.rstLvl := rfl
@[simp] theorem setWr_dcLvl : (s.setWr v).dcLvl = s.dcLvl := rfl
@[simp] theorem setWr_wr : (s.setWr v).wr = v := rfl
@[simp] theorem setWr_dly : (s.setWr v).dly = s.dly := rfl
@[simp] theorem setWr_clrIdx : (s.setWr v).clrIdx = s.clrIdx := rfl
@[simp] theorem setWr_cur : (s.setWr v).cur = s.cur := rfl
@[simp] theorem setWr_ctrl : (s.setWr v).ctrl = s.ctrl := rfl
@[simp] theorem setWr_inbox : (s.setWr v).inbox = s.inbox := rfl
@[simp] theorem setWr_coming : (s.setWr v).coming = s.coming := rfl
@[simp] theorem setWr_tick : (s.setWr v).tick = s.tick := rfl
@[simp] theorem setWr_stalled : (s.setWr v).stalled = s.stalled := rfl
@[simp] theorem setWr_trace : (s.setWr v).trace = s.trace := rfl
end

section
variable (s : State) (v : Delay)
@[simp] theorem setDly_cfg : (s.setDly v).cfg = s.cfg := rfl
@[simp] theorem setDly_mem : (s.setDly v).mem = s.mem := rfl
@[simp] theorem setDly_front : (s.setDly v).front = s.front := rfl
@[simp] theorem setDly_initDone : (s.setDly v).initDone = s.initDone := rfl
@[simp] theorem setDly_phase : (s.setDly v).phase = s.phase := rfl
@[simp] theorem setDly_stepPtr : (s.setDly v).stepPtr = s.stepPtr := rfl
@[simp] theorem setDly_rsp : (s.setDly v).rsp = s.rsp := rfl
@[simp] theorem setDly_rstLvl : (s.setDly v).rstLvl = s.rstLvl := rfl
@[simp] theorem setDly_dcLvl : (s.setDly v).dcLvl = s.dcLvl := rfl
@[simp] theorem setDly_wr : (s.setDly v).wr = s.wr := rfl
@[simp] theorem setDly_dly : (s.setDly v).dly = v := rfl
@[simp] theorem setDly_clrIdx : (s.setDly v).clrIdx = s.clrIdx := rfl
@[simp] theorem setDly_cur : (s.setDly v).cur = s.cur := rfl
@[simp] theorem setDly_ctrl : (s.setDly v).ctrl = s.ctrl := rfl
@[simp] theorem setDly_inbox : (s.setDly v).inbox = s.inbox := rfl
@[simp] theorem setDly_coming : (s.setDly v).coming = s.coming := rfl
@[simp] theorem setDly_tick : (s.setDly v).tick = s.tick := rfl
@[simp] theorem setDly_stalled : (s.setDly v).stalled = s.stalled := rfl
@[simp] theorem setDly_trace : (s.setDly v).trace = s.trace := rfl
end

section
variable (s : State) (v : BitVec 14)
@[simp] theorem setClrIdx_cfg : (s.setClrIdx v).cfg = s.cfg := rfl
@[simp] theorem setClrIdx_mem : (s.setClrIdx v).mem = s.mem := rfl
@[simp] theorem setClrIdx_front : (s.setClrIdx v).front = s.front := rfl
@[simp] theorem setClrIdx_initDone : (s.setClrIdx v).initDone = s.initDone := rfl
@[simp] theorem setClrIdx_phase : (s.setClrIdx v).phase = s.phase := rfl
@[simp] theorem setClrIdx_stepPtr : (s.setClrIdx v).stepPtr = s.stepPtr := rfl
@[simp] theorem setClrIdx_rsp : (s.setClrIdx v).rsp = s.rsp := rfl
@[simp] theorem setClrIdx_rstLvl : (s.setClrIdx v).rstLvl = s.rstLvl := rfl
@[simp] theorem setClrIdx_dcLvl : (s.setClrIdx v).dcLvl = s.dcLvl := rfl
@[simp] theorem setClrIdx_wr : (s.setClrIdx v).wr = s.wr := rfl
@[simp] theorem setClrIdx_dly : (s.setClrIdx v).dly = s.dly := rfl
@[simp] theorem setClrIdx_clrIdx : (s.setClrIdx v).clrIdx = v := rfl
@[simp] theorem setClrIdx_cur : (s.setClrIdx v).cur = s.cur := rfl
@[simp] theorem setClrIdx_ctrl : (s.setClrIdx v).ctrl = s.ctrl := rfl
@[simp] theorem setClrIdx_inbox : (s.setClrIdx v).inbox = s.inbox := rfl
@[simp] theorem setClrIdx_coming : (s.setClrIdx v).coming = s.coming := rfl
@[simp] theorem setClrIdx_tick : (s.setClrIdx v).tick = s.tick := rfl
@[simp] theorem setClrIdx_stalled : (s.setClrIdx v).stalled = s.stalled := rfl
@[simp] theorem setClrIdx_trace : (s.setClrIdx v).trace = s.trace := rfl
end

section
variable (s : State) (v : Latched)
@[simp] theorem setCur_cfg : (s.setCur v).cfg = s.cfg := rfl
@[simp] theorem setCur_mem : (s.setCur v).mem = s.mem := rfl
@[simp] theorem setCur_front : (s.setCur v).front = s.front := rfl
@[simp] theorem setCur_initDone : (s.setCur v).initDone = s.initDone := rfl
@[simp] theorem setCur_phase : (s.setCur v).phase = s.phase := rfl
@[simp] theorem setCur_stepPtr : (s.setCur v).stepPtr = s.stepPtr := rfl
@[simp] theorem setCur_rsp : (s.setCur v).rsp = s.rsp := rfl
@[simp] theorem setCur_rstLvl : (s.setCur v).rstLvl = s.rstLvl := rfl
@[simp] theorem setCur_dcLvl : (s.setCur v).dcLvl = s.dcLvl := rfl
@[simp] theorem setCur_wr : (s.setCur v).wr = s.wr := rfl
@[simp] theorem setCur_dly : (s.setCur v).dly = s.dly := rfl
@[simp] theorem setCur_clrIdx : (s.setCur v).clrIdx = s.clrIdx := rfl
@[simp] theorem setCur_cur : (s.setCur v).cur = v := rfl
@[simp] theorem setCur_ctrl : (s.setCur v).ctrl = s.ctrl := rfl
@[simp] theorem setCur_inbox : (s.setCur v).inbox = s.inbox := rfl
@[simp] theorem setCur_coming : (s.setCur v).coming = s.coming := rfl
@[simp] theorem setCur_tick : (s.setCur v).tick = s.tick := rfl
@[simp] theorem setCur_stalled : (s.setCur v).stalled = s.stalled := rfl
@[simp] theorem setCur_trace : (s.setCur v).trace = s.trace := rfl
end

section
variable (s : State) (v : CtrlRegs)
@[simp] theorem setCtrl_cfg : (s.setCtrl v).cfg = s.cfg := rfl
@[simp] theorem setCtrl_mem : (s.setCtrl v).mem = s.mem := rfl
@[simp] theorem setCtrl_front : (s.setCtrl v).front = s.front := rfl
@[simp] theorem setCtrl_initDone : (s.setCtrl v).initDone = s.initDone := rfl
@[simp] theorem setCtrl_phase : (s.setCtrl v).phase = s.phase := rfl
@[simp] theorem setCtrl_stepPtr : (s.setCtrl v).stepPtr = s.stepPtr := rfl
@[simp] theorem setCtrl_rsp : (s.setCtrl v).rsp = s.rsp := rfl
@[simp] theorem setCtrl_rstLvl : (s.setCtrl v).rstLvl = s.rstLvl := rfl
@[simp] theorem setCtrl_dcLvl : (s.setCtrl v).dcLvl = s.dcLvl := rfl
@[simp] theorem setCtrl_wr : (s.setCtrl v).wr = s.wr := rfl
@[simp] theorem setCtrl_dly : (s.setCtrl v).dly = s.dly := rfl
@[simp] theorem setCtrl_clrIdx : (s.setCtrl v).clrIdx = s.clrIdx := rfl
@[simp] theorem setCtrl_cur : (s.setCtrl v).cur = s.cur := rfl
@[simp] theorem setCtrl_ctrl : (s.setCtrl v).ctrl = v := rfl
@[simp] theorem setCtrl_inbox : (s.setCtrl v).inbox = s.inbox := rfl
@[simp] theorem setCtrl_coming : (s.setCtrl v).coming = s.coming := rfl
@[simp] theorem setCtrl_tick : (s.setCtrl v).tick = s.tick := rfl
@[simp] theorem setCtrl_stalled : (s.setCtrl v).stalled = s.stalled := rfl
@[simp] theorem setCtrl_trace : (s.setCtrl v).trace = s.trace := rfl
end

section
variable (s : State) (v : List BusByte)
@[simp] theorem setInbox_cfg : (s.setInbox v).cfg = s.cfg := rfl
@[simp] theorem setInbox_mem : (s.setInbox v).mem = s.mem := rfl
@[simp] theorem setInbox_front : (s.setInbox v).front = s.front := rfl
@[simp] theorem setInbox_initDone : (s.setInbox v).initDone = s.initDone := rfl
@[simp] theorem setInbox_phase : (s.setInbox v).phase = s.phase := rfl
@[simp] theorem setInbox_stepPtr : (s.setInbox v).stepPtr = s.stepPtr := rfl
@[simp] theorem setInbox_rsp : (s.setInbox v).rsp = s.rsp := rfl
@[simp] theorem setInbox_rstLvl : (s.setInbox v).rstLvl = s.rstLvl := rfl
@[simp] theorem setInbox_dcLvl : (s.setInbox v).dcLvl = s.dcLvl := rfl
@[simp] theorem setInbox_wr : (s.setInbox v).wr = s.wr := rfl
@[simp] theorem setInbox_dly : (s.setInbox v).dly = s.dly := rfl
@[simp] theorem setInbox_clrIdx : (s.setInbox v).clrIdx = s.clrIdx := rfl
@[simp] theorem setInbox_cur : (s.setInbox v).cur = s.cur := rfl
@[simp] theorem setInbox_ctrl : (s.setInbox v).ctrl = s.ctrl := rfl
@[simp] theorem setInbox_inbox : (s.setInbox v).inbox = v := rfl
@[simp] theorem setInbox_coming : (s.setInbox v).coming = s.coming := rfl
@[simp] theorem setInbox_tick : (s.setInbox v).tick = s.tick := rfl
@[simp] theorem setInbox_stalled : (s.setInbox v).stalled = s.stalled := rfl
@[simp] theorem setInbox_trace : (s.setInbox v).trace = s.trace := rfl
end

section
variable (s : State) (v : List Edge)
@[simp] theorem setComing_cfg : (s.setComing v).cfg = s.cfg := rfl
@[simp] theorem setComing_mem : (s.setComing v).mem = s.mem := rfl
@[simp] theorem setComing_front : (s.setComing v).front = s.front := rfl
@[simp] theorem setComing_initDone : (s.setComing v).initDone = s.initDone := rfl
@[simp] theorem setComing_phase : (s.setComing v).phase = s.phase := rfl
@[simp] theorem setComing_stepPtr : (s.setComing v).stepPtr = s.stepPtr := rfl
@[simp] theorem setComing_rsp : (s.setComing v).rsp = s.rsp := rfl
@[simp] theorem setComing_rstLvl : (s.setComing v).rstLvl = s.rstLvl := rfl
@[simp] theorem setComing_dcLvl : (s.setComing v).dcLvl = s.dcLvl := rfl
@[simp] theorem setComing_wr : (s.setComing v).wr = s.wr := rfl
@[simp] theorem setComing_dly : (s.setComing v).dly = s.dly := rfl
@[simp] theorem setComing_clrIdx : (s.setComing v).clrIdx = s.clrIdx := rfl
@[simp] theorem setComing_cur : (s.setComing v).cur = s.cur := rfl
@[simp] theorem setComing_ctrl : (s.setComing v).ctrl = s.ctrl := rfl
@[simp] theorem setComing_inbox : (s.setComing v).inbox = s.inbox := rfl
@[simp] theorem setComing_coming : (s.setComing v).coming = v := rfl
@[simp] theorem setComing_tick : (s.setComing v).tick = s.tick := rfl
@[simp] theorem setComing_stalled : (s.setComing v).stalled = s.stalled := rfl
@[simp] theorem setComing_trace : (s.setComing v).trace = s.trace := rfl
end

section
variable (s : State) (v : Nat)
@[simp] theorem setTick_cfg : (s.setTick v).cfg = s.cfg := rfl
@[simp] theorem setTick_mem : (s.setTick v).mem = s.mem := rfl
@[simp] theorem setTick_front : (s.setTick v).front = s.front := rfl
@[simp] theorem setTick_initDone : (s.setTick v).initDone = s.initDone := rfl
@[simp] theorem setTick_phase : (s.setTick v).phase = s.phase := rfl
@[simp] theorem setTick_stepPtr : (s.setTick v).stepPtr = s.stepPtr := rfl
@[simp] theorem setTick_rsp : (s.setTick v).rsp = s.rsp := rfl
@[simp] theorem setTick_rstLvl : (s.setTick v).rstLvl = s.rstLvl := rfl
@[simp] theorem setTick_dcLvl : (s.setTick v).dcLvl = s.dcLvl := rfl
@[simp] theorem setTick_wr : (s.setTick v).wr = s.wr := rfl
@[simp] theorem setTick_dly : (s.setTick v).dly = s.dly := rfl
@[simp] theorem setTick_clrIdx : (s.setTick v).clrIdx = s.clrIdx := rfl
@[simp] theorem setTick_cur : (s.setTick v).cur = s.cur := rfl
@[simp] theorem setTick_ctrl : (s.setTick v).ctrl = s.ctrl := rfl
@[simp] theorem setTick_inbox : (s.setTick v).inbox = s.inbox := rfl
@[simp] theorem setTick_coming : (s.setTick v).coming = s.coming := rfl
@[simp] theorem setTick_tick : (s.setTick v).tick = v := rfl
@[simp] theorem setTick_stalled : (s.setTick v).stalled = s.stalled := rfl
@[simp] theorem setTick_trace : (s.setTick v).trace = s.trace := rfl
end

section
variable (s : State) (v : Nat)
@[simp] theorem setStalled_cfg : (s.setStalled v).cfg = s.cfg := rfl
@[simp] theorem setStalled_mem : (s.setStalled v).mem = s.mem := rfl
@[simp] theorem setStalled_front : (s.setStalled v).front = s.front := rfl
@[simp] theorem setStalled_initDone : (s.setStalled v).initDone = s.initDone := rfl
@[simp] theorem setStalled_phase : (s.setStalled v).phase = s.phase := rfl
@[simp] theorem setStalled_stepPtr : (s.setStalled v).stepPtr = s.stepPtr := rfl
@[simp] theorem setStalled_rsp : (s.setStalled v).rsp = s.rsp := rfl
@[simp] theorem setStalled_rstLvl : (s.setStalled v).rstLvl = s.rstLvl := rfl
@[simp] theorem setStalled_dcLvl : (s.setStalled v).dcLvl = s.dcLvl := rfl
@[simp] theorem setStalled_wr : (s.setStalled v).wr = s.wr := rfl
@[simp] theorem setStalled_dly : (s.setStalled v).dly = s.dly := rfl
@[simp] theorem setStalled_clrIdx : (s.setStalled v).clrIdx = s.clrIdx := rfl
@[simp] theorem setStalled_cur : (s.setStalled v).cur = s.cur := rfl
@[simp] theorem setStalled_ctrl : (s.setStalled v).ctrl = s.ctrl := rfl
@[simp] theorem setStalled_inbox : (s.setStalled v).inbox = s.inbox := rfl
@[simp] theorem setStalled_coming : (s.setStalled v).coming = s.coming := rfl
@[simp] theorem setStalled_tick : (s.setStalled v).tick = s.tick := rfl
@[simp] theorem setStalled_stalled : (s.setStalled v).stalled = v := rfl
@[simp] theorem setStalled_trace : (s.setStalled v).trace = s.trace := rfl
end

section
variable (s : State) (v : Event)
@[simp] theorem log_cfg : (s.log v).cfg = s.cfg := rfl
@[simp] theorem log_mem : (s.log v).mem = s.mem := rfl
@[simp] theorem log_front : (s.log v).front = s.front := rfl
@[simp] theorem log_initDone : (s.log v).initDone = s.initDone := rfl
@[simp] theorem log_phase : (s.log v).phase = s.phase := rfl
@[simp] theorem log_stepPtr : (s.log v).stepPtr = s.stepPtr := rfl
@[simp] theorem log_rsp : (s.log v).rsp = s.rsp := rfl
@[simp] theorem log_rstLvl : (s.log v).rstLvl = s.rstLvl := rfl
@[simp] theorem log_dcLvl : (s.log v).dcLvl = s.dcLvl := rfl
@[simp] theorem log_wr : (s.log v).wr = s.wr := rfl
@[simp] theorem log_dly : (s.log v).dly = s.dly := rfl
@[simp] theorem log_clrIdx : (s.log v).clrIdx = s.clrIdx := rfl
@[simp] theorem log_cur : (s.log v).cur = s.cur := rfl
@[simp] theorem log_ctrl : (s.log v).ctrl = s.ctrl := rfl
@[simp] theorem log_inbox : (s.log v).inbox = s.inbox := rfl
@[simp] theorem log_coming : (s.log v).coming = s.coming := rfl
@[simp] theorem log_tick : (s.log v).tick = s.tick := rfl
@[simp] theorem log_stalled : (s.log v).stalled = s.stalled := rfl
@[simp] theorem log_trace : (s.log v).trace = s.trace ++ [v] := rfl
end

end Sys2Proof.Machine.State
end

