-- ==== Sys2Proof/Laws/Ops.lean ====
section
/-! SUPPORT. Laws/Ops: for each shared operation, what it writes and what it keeps, one simp lemma per field. -/

namespace Sys2Proof.Machine.State

section
variable (s : State) (l : Bool)
@[simp] theorem setDcLine_cfg : (s.setDcLine l).cfg = s.cfg := by unfold State.setDcLine; split <;> simp_all
@[simp] theorem setDcLine_mem : (s.setDcLine l).mem = s.mem := by unfold State.setDcLine; split <;> simp_all
@[simp] theorem setDcLine_front : (s.setDcLine l).front = s.front := by unfold State.setDcLine; split <;> simp_all
@[simp] theorem setDcLine_initDone : (s.setDcLine l).initDone = s.initDone := by unfold State.setDcLine; split <;> simp_all
@[simp] theorem setDcLine_phase : (s.setDcLine l).phase = s.phase := by unfold State.setDcLine; split <;> simp_all
@[simp] theorem setDcLine_stepPtr : (s.setDcLine l).stepPtr = s.stepPtr := by unfold State.setDcLine; split <;> simp_all
@[simp] theorem setDcLine_rsp : (s.setDcLine l).rsp = s.rsp := by unfold State.setDcLine; split <;> simp_all
@[simp] theorem setDcLine_rstLvl : (s.setDcLine l).rstLvl = s.rstLvl := by unfold State.setDcLine; split <;> simp_all
@[simp] theorem setDcLine_dcLvl : (s.setDcLine l).dcLvl = l := by unfold State.setDcLine; split <;> simp_all
@[simp] theorem setDcLine_wr : (s.setDcLine l).wr = s.wr := by unfold State.setDcLine; split <;> simp_all
@[simp] theorem setDcLine_dly : (s.setDcLine l).dly = s.dly := by unfold State.setDcLine; split <;> simp_all
@[simp] theorem setDcLine_clrIdx : (s.setDcLine l).clrIdx = s.clrIdx := by unfold State.setDcLine; split <;> simp_all
@[simp] theorem setDcLine_cur : (s.setDcLine l).cur = s.cur := by unfold State.setDcLine; split <;> simp_all
@[simp] theorem setDcLine_ctrl : (s.setDcLine l).ctrl = s.ctrl := by unfold State.setDcLine; split <;> simp_all
@[simp] theorem setDcLine_inbox : (s.setDcLine l).inbox = s.inbox := by unfold State.setDcLine; split <;> simp_all
@[simp] theorem setDcLine_coming : (s.setDcLine l).coming = s.coming := by unfold State.setDcLine; split <;> simp_all
@[simp] theorem setDcLine_tick : (s.setDcLine l).tick = s.tick := by unfold State.setDcLine; split <;> simp_all
@[simp] theorem setDcLine_stalled : (s.setDcLine l).stalled = s.stalled := by unfold State.setDcLine; split <;> simp_all
@[simp] theorem setDcLine_trace : (s.setDcLine l).trace = s.trace ++ (if s.dcLvl = l then [] else [.dc l]) := by unfold State.setDcLine; split <;> simp_all
end

section
variable (s : State)
@[simp] theorem regsUnknown_cfg : (s.regsUnknown).cfg = s.cfg := rfl
@[simp] theorem regsUnknown_mem : (s.regsUnknown).mem = s.mem := rfl
@[simp] theorem regsUnknown_front : (s.regsUnknown).front = s.front := rfl
@[simp] theorem regsUnknown_initDone : (s.regsUnknown).initDone = s.initDone := rfl
@[simp] theorem regsUnknown_phase : (s.regsUnknown).phase = s.phase := rfl
@[simp] theorem regsUnknown_stepPtr : (s.regsUnknown).stepPtr = s.stepPtr := rfl
@[simp] theorem regsUnknown_rsp : (s.regsUnknown).rsp = s.rsp := rfl
@[simp] theorem regsUnknown_rstLvl : (s.regsUnknown).rstLvl = s.rstLvl := rfl
@[simp] theorem regsUnknown_dcLvl : (s.regsUnknown).dcLvl = s.dcLvl := rfl
@[simp] theorem regsUnknown_wr : (s.regsUnknown).wr = s.wr := rfl
@[simp] theorem regsUnknown_dly : (s.regsUnknown).dly = s.dly := rfl
@[simp] theorem regsUnknown_clrIdx : (s.regsUnknown).clrIdx = s.clrIdx := rfl
@[simp] theorem regsUnknown_cur : (s.regsUnknown).cur = s.cur := rfl
@[simp] theorem regsUnknown_ctrl : (s.regsUnknown).ctrl = { Config.freeCtrl s.tick with ramOpen := false, ram := s.ctrl.ram } := rfl
@[simp] theorem regsUnknown_inbox : (s.regsUnknown).inbox = s.inbox := rfl
@[simp] theorem regsUnknown_coming : (s.regsUnknown).coming = s.coming := rfl
@[simp] theorem regsUnknown_tick : (s.regsUnknown).tick = s.tick := rfl
@[simp] theorem regsUnknown_stalled : (s.regsUnknown).stalled = s.stalled := rfl
@[simp] theorem regsUnknown_trace : (s.regsUnknown).trace = s.trace := rfl
end

section
variable (s : State)
@[simp] theorem ctrlUnknown_cfg : (s.ctrlUnknown).cfg = s.cfg := rfl
@[simp] theorem ctrlUnknown_mem : (s.ctrlUnknown).mem = s.mem := rfl
@[simp] theorem ctrlUnknown_front : (s.ctrlUnknown).front = s.front := rfl
@[simp] theorem ctrlUnknown_initDone : (s.ctrlUnknown).initDone = s.initDone := rfl
@[simp] theorem ctrlUnknown_phase : (s.ctrlUnknown).phase = s.phase := rfl
@[simp] theorem ctrlUnknown_stepPtr : (s.ctrlUnknown).stepPtr = s.stepPtr := rfl
@[simp] theorem ctrlUnknown_rsp : (s.ctrlUnknown).rsp = s.rsp := rfl
@[simp] theorem ctrlUnknown_rstLvl : (s.ctrlUnknown).rstLvl = s.rstLvl := rfl
@[simp] theorem ctrlUnknown_dcLvl : (s.ctrlUnknown).dcLvl = s.dcLvl := rfl
@[simp] theorem ctrlUnknown_wr : (s.ctrlUnknown).wr = s.wr := rfl
@[simp] theorem ctrlUnknown_dly : (s.ctrlUnknown).dly = s.dly := rfl
@[simp] theorem ctrlUnknown_clrIdx : (s.ctrlUnknown).clrIdx = s.clrIdx := rfl
@[simp] theorem ctrlUnknown_cur : (s.ctrlUnknown).cur = s.cur := rfl
@[simp] theorem ctrlUnknown_ctrl : (s.ctrlUnknown).ctrl = Config.freeCtrl s.tick := rfl
@[simp] theorem ctrlUnknown_inbox : (s.ctrlUnknown).inbox = [] := rfl
@[simp] theorem ctrlUnknown_coming : (s.ctrlUnknown).coming = s.coming := rfl
@[simp] theorem ctrlUnknown_tick : (s.ctrlUnknown).tick = s.tick := rfl
@[simp] theorem ctrlUnknown_stalled : (s.ctrlUnknown).stalled = s.stalled := rfl
@[simp] theorem ctrlUnknown_trace : (s.ctrlUnknown).trace = s.trace := rfl
end

section
variable (s : State) (l : Bool)
@[simp] theorem setRstLine_cfg : (s.setRstLine l).cfg = s.cfg := by unfold State.setRstLine; cases h : s.rstLvl <;> cases l <;> simp_all
@[simp] theorem setRstLine_mem : (s.setRstLine l).mem = s.mem := by unfold State.setRstLine; cases h : s.rstLvl <;> cases l <;> simp_all
@[simp] theorem setRstLine_front : (s.setRstLine l).front = s.front := by unfold State.setRstLine; cases h : s.rstLvl <;> cases l <;> simp_all
@[simp] theorem setRstLine_initDone : (s.setRstLine l).initDone = s.initDone := by unfold State.setRstLine; cases h : s.rstLvl <;> cases l <;> simp_all
@[simp] theorem setRstLine_phase : (s.setRstLine l).phase = s.phase := by unfold State.setRstLine; cases h : s.rstLvl <;> cases l <;> simp_all
@[simp] theorem setRstLine_stepPtr : (s.setRstLine l).stepPtr = s.stepPtr := by unfold State.setRstLine; cases h : s.rstLvl <;> cases l <;> simp_all
@[simp] theorem setRstLine_rsp : (s.setRstLine l).rsp = s.rsp := by unfold State.setRstLine; cases h : s.rstLvl <;> cases l <;> simp_all
@[simp] theorem setRstLine_rstLvl : (s.setRstLine l).rstLvl = l := by unfold State.setRstLine; cases h : s.rstLvl <;> cases l <;> simp_all
@[simp] theorem setRstLine_dcLvl : (s.setRstLine l).dcLvl = s.dcLvl := by unfold State.setRstLine; cases h : s.rstLvl <;> cases l <;> simp_all
@[simp] theorem setRstLine_wr : (s.setRstLine l).wr = s.wr := by unfold State.setRstLine; cases h : s.rstLvl <;> cases l <;> simp_all
@[simp] theorem setRstLine_dly : (s.setRstLine l).dly = s.dly := by unfold State.setRstLine; cases h : s.rstLvl <;> cases l <;> simp_all
@[simp] theorem setRstLine_clrIdx : (s.setRstLine l).clrIdx = s.clrIdx := by unfold State.setRstLine; cases h : s.rstLvl <;> cases l <;> simp_all
@[simp] theorem setRstLine_cur : (s.setRstLine l).cur = s.cur := by unfold State.setRstLine; cases h : s.rstLvl <;> cases l <;> simp_all
@[simp] theorem setRstLine_ctrl : (s.setRstLine l).ctrl = if s.rstLvl = true ∧ l = false then Config.freeCtrl s.tick else s.ctrl := by unfold State.setRstLine; cases h : s.rstLvl <;> cases l <;> simp_all
@[simp] theorem setRstLine_inbox : (s.setRstLine l).inbox = if s.rstLvl = true ∧ l = false then [] else s.inbox := by unfold State.setRstLine; cases h : s.rstLvl <;> cases l <;> simp_all
@[simp] theorem setRstLine_coming : (s.setRstLine l).coming = s.coming := by unfold State.setRstLine; cases h : s.rstLvl <;> cases l <;> simp_all
@[simp] theorem setRstLine_tick : (s.setRstLine l).tick = s.tick := by unfold State.setRstLine; cases h : s.rstLvl <;> cases l <;> simp_all
@[simp] theorem setRstLine_stalled : (s.setRstLine l).stalled = s.stalled := by unfold State.setRstLine; cases h : s.rstLvl <;> cases l <;> simp_all
@[simp] theorem setRstLine_trace : (s.setRstLine l).trace = s.trace ++ (if s.rstLvl = l then [] else [.rst l]) := by unfold State.setRstLine; cases h : s.rstLvl <;> cases l <;> simp_all
end

section
variable (s : State)
@[simp] theorem swapBuffers_cfg : (s.swapBuffers).cfg = s.cfg := rfl
@[simp] theorem swapBuffers_mem : (s.swapBuffers).mem = s.mem := rfl
@[simp] theorem swapBuffers_front : (s.swapBuffers).front = s.front ^^^ 1#1 := rfl
@[simp] theorem swapBuffers_initDone : (s.swapBuffers).initDone = s.initDone := rfl
@[simp] theorem swapBuffers_phase : (s.swapBuffers).phase = s.phase := rfl
@[simp] theorem swapBuffers_stepPtr : (s.swapBuffers).stepPtr = s.stepPtr := rfl
@[simp] theorem swapBuffers_rsp : (s.swapBuffers).rsp = s.rsp := rfl
@[simp] theorem swapBuffers_rstLvl : (s.swapBuffers).rstLvl = s.rstLvl := rfl
@[simp] theorem swapBuffers_dcLvl : (s.swapBuffers).dcLvl = s.dcLvl := rfl
@[simp] theorem swapBuffers_wr : (s.swapBuffers).wr = s.wr := rfl
@[simp] theorem swapBuffers_dly : (s.swapBuffers).dly = s.dly := rfl
@[simp] theorem swapBuffers_clrIdx : (s.swapBuffers).clrIdx = s.clrIdx := rfl
@[simp] theorem swapBuffers_cur : (s.swapBuffers).cur = s.cur := rfl
@[simp] theorem swapBuffers_ctrl : (s.swapBuffers).ctrl = s.ctrl := rfl
@[simp] theorem swapBuffers_inbox : (s.swapBuffers).inbox = s.inbox := rfl
@[simp] theorem swapBuffers_coming : (s.swapBuffers).coming = s.coming := rfl
@[simp] theorem swapBuffers_tick : (s.swapBuffers).tick = s.tick := rfl
@[simp] theorem swapBuffers_stalled : (s.swapBuffers).stalled = s.stalled := rfl
@[simp] theorem swapBuffers_trace : (s.swapBuffers).trace = s.trace ++ [.swap] := rfl
end

section
variable (s : State) (op : OpCode) (err : Bool)
@[simp] theorem respond_cfg : (s.respond op err).cfg = s.cfg := rfl
@[simp] theorem respond_mem : (s.respond op err).mem = s.mem := rfl
@[simp] theorem respond_front : (s.respond op err).front = s.front := rfl
@[simp] theorem respond_initDone : (s.respond op err).initDone = s.initDone := rfl
@[simp] theorem respond_phase : (s.respond op err).phase = .respond := rfl
@[simp] theorem respond_stepPtr : (s.respond op err).stepPtr = s.stepPtr := rfl
@[simp] theorem respond_rsp : (s.respond op err).rsp = ⟨op, err⟩ := rfl
@[simp] theorem respond_rstLvl : (s.respond op err).rstLvl = s.rstLvl := rfl
@[simp] theorem respond_dcLvl : (s.respond op err).dcLvl = s.dcLvl := rfl
@[simp] theorem respond_wr : (s.respond op err).wr = s.wr := rfl
@[simp] theorem respond_dly : (s.respond op err).dly = s.dly := rfl
@[simp] theorem respond_clrIdx : (s.respond op err).clrIdx = s.clrIdx := rfl
@[simp] theorem respond_cur : (s.respond op err).cur = s.cur := rfl
@[simp] theorem respond_ctrl : (s.respond op err).ctrl = s.ctrl := rfl
@[simp] theorem respond_inbox : (s.respond op err).inbox = s.inbox := rfl
@[simp] theorem respond_coming : (s.respond op err).coming = s.coming := rfl
@[simp] theorem respond_tick : (s.respond op err).tick = s.tick := rfl
@[simp] theorem respond_stalled : (s.respond op err).stalled = s.stalled := rfl
@[simp] theorem respond_trace : (s.respond op err).trace = s.trace := rfl
end

section
variable (s : State)
@[simp] theorem raiseTransportError_cfg : (s.raiseTransportError).cfg = s.cfg := rfl
@[simp] theorem raiseTransportError_mem : (s.raiseTransportError).mem = s.mem := rfl
@[simp] theorem raiseTransportError_front : (s.raiseTransportError).front = s.front := rfl
@[simp] theorem raiseTransportError_initDone : (s.raiseTransportError).initDone = s.initDone := rfl
@[simp] theorem raiseTransportError_phase : (s.raiseTransportError).phase = .respond := rfl
@[simp] theorem raiseTransportError_stepPtr : (s.raiseTransportError).stepPtr = s.stepPtr := rfl
@[simp] theorem raiseTransportError_rsp : (s.raiseTransportError).rsp = ⟨s.cur.op, true⟩ := rfl
@[simp] theorem raiseTransportError_rstLvl : (s.raiseTransportError).rstLvl = s.rstLvl := rfl
@[simp] theorem raiseTransportError_dcLvl : (s.raiseTransportError).dcLvl = s.dcLvl := rfl
@[simp] theorem raiseTransportError_wr : (s.raiseTransportError).wr = ⟨false, s.wr.dc, s.wr.len, s.wr.pos, s.wr.gap⟩ := rfl
@[simp] theorem raiseTransportError_dly : (s.raiseTransportError).dly = s.dly := rfl
@[simp] theorem raiseTransportError_clrIdx : (s.raiseTransportError).clrIdx = s.clrIdx := rfl
@[simp] theorem raiseTransportError_cur : (s.raiseTransportError).cur = s.cur := rfl
@[simp] theorem raiseTransportError_ctrl : (s.raiseTransportError).ctrl = s.ctrl := rfl
@[simp] theorem raiseTransportError_inbox : (s.raiseTransportError).inbox = s.inbox := rfl
@[simp] theorem raiseTransportError_coming : (s.raiseTransportError).coming = s.coming := rfl
@[simp] theorem raiseTransportError_tick : (s.raiseTransportError).tick = s.tick := rfl
@[simp] theorem raiseTransportError_stalled : (s.raiseTransportError).stalled = s.stalled := rfl
@[simp] theorem raiseTransportError_trace : (s.raiseTransportError).trace = s.trace := rfl
end

section
variable (s : State)
@[simp] theorem takeResponse_cfg : (s.takeResponse).cfg = s.cfg := rfl
@[simp] theorem takeResponse_mem : (s.takeResponse).mem = s.mem := rfl
@[simp] theorem takeResponse_front : (s.takeResponse).front = s.front := rfl
@[simp] theorem takeResponse_initDone : (s.takeResponse).initDone = s.initDone := rfl
@[simp] theorem takeResponse_phase : (s.takeResponse).phase = .idle := rfl
@[simp] theorem takeResponse_stepPtr : (s.takeResponse).stepPtr = s.stepPtr := rfl
@[simp] theorem takeResponse_rsp : (s.takeResponse).rsp = s.rsp := rfl
@[simp] theorem takeResponse_rstLvl : (s.takeResponse).rstLvl = s.rstLvl := rfl
@[simp] theorem takeResponse_dcLvl : (s.takeResponse).dcLvl = s.dcLvl := rfl
@[simp] theorem takeResponse_wr : (s.takeResponse).wr = s.wr := rfl
@[simp] theorem takeResponse_dly : (s.takeResponse).dly = s.dly := rfl
@[simp] theorem takeResponse_clrIdx : (s.takeResponse).clrIdx = s.clrIdx := rfl
@[simp] theorem takeResponse_cur : (s.takeResponse).cur = s.cur := rfl
@[simp] theorem takeResponse_ctrl : (s.takeResponse).ctrl = s.ctrl := rfl
@[simp] theorem takeResponse_inbox : (s.takeResponse).inbox = s.inbox := rfl
@[simp] theorem takeResponse_coming : (s.takeResponse).coming = s.coming := rfl
@[simp] theorem takeResponse_tick : (s.takeResponse).tick = s.tick := rfl
@[simp] theorem takeResponse_stalled : (s.takeResponse).stalled = s.stalled := rfl
@[simp] theorem takeResponse_trace : (s.takeResponse).trace = s.trace ++ [.rsp s.rsp.op s.rsp.err] := rfl
end

section
variable (s : State)
@[simp] theorem advance_cfg : (s.advance).cfg = s.cfg := rfl
@[simp] theorem advance_mem : (s.advance).mem = s.mem := rfl
@[simp] theorem advance_front : (s.advance).front = s.front := rfl
@[simp] theorem advance_initDone : (s.advance).initDone = s.initDone := rfl
@[simp] theorem advance_phase : (s.advance).phase = s.phase := rfl
@[simp] theorem advance_stepPtr : (s.advance).stepPtr = s.stepPtr + 1#6 := rfl
@[simp] theorem advance_rsp : (s.advance).rsp = s.rsp := rfl
@[simp] theorem advance_rstLvl : (s.advance).rstLvl = s.rstLvl := rfl
@[simp] theorem advance_dcLvl : (s.advance).dcLvl = s.dcLvl := rfl
@[simp] theorem advance_wr : (s.advance).wr = s.wr := rfl
@[simp] theorem advance_dly : (s.advance).dly = s.dly := rfl
@[simp] theorem advance_clrIdx : (s.advance).clrIdx = s.clrIdx := rfl
@[simp] theorem advance_cur : (s.advance).cur = s.cur := rfl
@[simp] theorem advance_ctrl : (s.advance).ctrl = s.ctrl := rfl
@[simp] theorem advance_inbox : (s.advance).inbox = s.inbox := rfl
@[simp] theorem advance_coming : (s.advance).coming = s.coming := rfl
@[simp] theorem advance_tick : (s.advance).tick = s.tick := rfl
@[simp] theorem advance_stalled : (s.advance).stalled = s.stalled := rfl
@[simp] theorem advance_trace : (s.advance).trace = s.trace := rfl
end

section
variable (s : State) (dc : Bool) (len : Nat) (gap : Bool)
@[simp] theorem startWrite_cfg : (s.startWrite dc len gap).cfg = s.cfg := rfl
@[simp] theorem startWrite_mem : (s.startWrite dc len gap).mem = s.mem := rfl
@[simp] theorem startWrite_front : (s.startWrite dc len gap).front = s.front := rfl
@[simp] theorem startWrite_initDone : (s.startWrite dc len gap).initDone = s.initDone := rfl
@[simp] theorem startWrite_phase : (s.startWrite dc len gap).phase = s.phase := rfl
@[simp] theorem startWrite_stepPtr : (s.startWrite dc len gap).stepPtr = s.stepPtr := rfl
@[simp] theorem startWrite_rsp : (s.startWrite dc len gap).rsp = s.rsp := rfl
@[simp] theorem startWrite_rstLvl : (s.startWrite dc len gap).rstLvl = s.rstLvl := rfl
@[simp] theorem startWrite_dcLvl : (s.startWrite dc len gap).dcLvl = s.dcLvl := rfl
@[simp] theorem startWrite_wr : (s.startWrite dc len gap).wr = ⟨true, dc, BitVec.ofNat 14 len, 0#14, gap⟩ := rfl
@[simp] theorem startWrite_dly : (s.startWrite dc len gap).dly = s.dly := rfl
@[simp] theorem startWrite_clrIdx : (s.startWrite dc len gap).clrIdx = s.clrIdx := rfl
@[simp] theorem startWrite_cur : (s.startWrite dc len gap).cur = s.cur := rfl
@[simp] theorem startWrite_ctrl : (s.startWrite dc len gap).ctrl = s.ctrl := rfl
@[simp] theorem startWrite_inbox : (s.startWrite dc len gap).inbox = s.inbox := rfl
@[simp] theorem startWrite_coming : (s.startWrite dc len gap).coming = s.coming := rfl
@[simp] theorem startWrite_tick : (s.startWrite dc len gap).tick = s.tick := rfl
@[simp] theorem startWrite_stalled : (s.startWrite dc len gap).stalled = s.stalled := rfl
@[simp] theorem startWrite_trace : (s.startWrite dc len gap).trace = s.trace := rfl
end

section
variable (s : State) (ms : Millis)
@[simp] theorem startDelay_cfg : (s.startDelay ms).cfg = s.cfg := rfl
@[simp] theorem startDelay_mem : (s.startDelay ms).mem = s.mem := rfl
@[simp] theorem startDelay_front : (s.startDelay ms).front = s.front := rfl
@[simp] theorem startDelay_initDone : (s.startDelay ms).initDone = s.initDone := rfl
@[simp] theorem startDelay_phase : (s.startDelay ms).phase = s.phase := rfl
@[simp] theorem startDelay_stepPtr : (s.startDelay ms).stepPtr = s.stepPtr := rfl
@[simp] theorem startDelay_rsp : (s.startDelay ms).rsp = s.rsp := rfl
@[simp] theorem startDelay_rstLvl : (s.startDelay ms).rstLvl = s.rstLvl := rfl
@[simp] theorem startDelay_dcLvl : (s.startDelay ms).dcLvl = s.dcLvl := rfl
@[simp] theorem startDelay_wr : (s.startDelay ms).wr = s.wr := rfl
@[simp] theorem startDelay_dly : (s.startDelay ms).dly = ⟨true, ms⟩ := rfl
@[simp] theorem startDelay_clrIdx : (s.startDelay ms).clrIdx = s.clrIdx := rfl
@[simp] theorem startDelay_cur : (s.startDelay ms).cur = s.cur := rfl
@[simp] theorem startDelay_ctrl : (s.startDelay ms).ctrl = s.ctrl := rfl
@[simp] theorem startDelay_inbox : (s.startDelay ms).inbox = s.inbox := rfl
@[simp] theorem startDelay_coming : (s.startDelay ms).coming = s.coming := rfl
@[simp] theorem startDelay_tick : (s.startDelay ms).tick = s.tick := rfl
@[simp] theorem startDelay_stalled : (s.startDelay ms).stalled = s.stalled := rfl
@[simp] theorem startDelay_trace : (s.startDelay ms).trace = s.trace := rfl
end

section
variable (s : State) (dc : Bool) (bytes : List Byte)
@[simp] theorem deliver_cfg : (s.deliver dc bytes).cfg = s.cfg := rfl
@[simp] theorem deliver_mem : (s.deliver dc bytes).mem = s.mem := rfl
@[simp] theorem deliver_front : (s.deliver dc bytes).front = s.front := rfl
@[simp] theorem deliver_initDone : (s.deliver dc bytes).initDone = s.initDone := rfl
@[simp] theorem deliver_phase : (s.deliver dc bytes).phase = s.phase := rfl
@[simp] theorem deliver_stepPtr : (s.deliver dc bytes).stepPtr = s.stepPtr := rfl
@[simp] theorem deliver_rsp : (s.deliver dc bytes).rsp = s.rsp := rfl
@[simp] theorem deliver_rstLvl : (s.deliver dc bytes).rstLvl = s.rstLvl := rfl
@[simp] theorem deliver_dcLvl : (s.deliver dc bytes).dcLvl = s.dcLvl := rfl
@[simp] theorem deliver_wr : (s.deliver dc bytes).wr = s.wr := rfl
@[simp] theorem deliver_dly : (s.deliver dc bytes).dly = s.dly := rfl
@[simp] theorem deliver_clrIdx : (s.deliver dc bytes).clrIdx = s.clrIdx := rfl
@[simp] theorem deliver_cur : (s.deliver dc bytes).cur = s.cur := rfl
@[simp] theorem deliver_ctrl : (s.deliver dc bytes).ctrl = s.ctrl := rfl
@[simp] theorem deliver_inbox : (s.deliver dc bytes).inbox = s.inbox ++ bytes.map (fun b => ⟨dc, b⟩) := rfl
@[simp] theorem deliver_coming : (s.deliver dc bytes).coming = s.coming := rfl
@[simp] theorem deliver_tick : (s.deliver dc bytes).tick = s.tick := rfl
@[simp] theorem deliver_stalled : (s.deliver dc bytes).stalled = s.stalled := rfl
@[simp] theorem deliver_trace : (s.deliver dc bytes).trace = s.trace := rfl
end

section
variable (s : State)
@[simp] theorem ticked_cfg : (s.ticked).cfg = s.cfg := rfl
@[simp] theorem ticked_mem : (s.ticked).mem = s.mem := rfl
@[simp] theorem ticked_front : (s.ticked).front = s.front := rfl
@[simp] theorem ticked_initDone : (s.ticked).initDone = s.initDone := rfl
@[simp] theorem ticked_phase : (s.ticked).phase = s.phase := rfl
@[simp] theorem ticked_stepPtr : (s.ticked).stepPtr = s.stepPtr := rfl
@[simp] theorem ticked_rsp : (s.ticked).rsp = s.rsp := rfl
@[simp] theorem ticked_rstLvl : (s.ticked).rstLvl = s.rstLvl := rfl
@[simp] theorem ticked_dcLvl : (s.ticked).dcLvl = s.dcLvl := rfl
@[simp] theorem ticked_wr : (s.ticked).wr = s.wr := rfl
@[simp] theorem ticked_dly : (s.ticked).dly = s.dly := rfl
@[simp] theorem ticked_clrIdx : (s.ticked).clrIdx = s.clrIdx := rfl
@[simp] theorem ticked_cur : (s.ticked).cur = s.cur := rfl
@[simp] theorem ticked_ctrl : (s.ticked).ctrl = s.ctrl := rfl
@[simp] theorem ticked_inbox : (s.ticked).inbox = s.inbox := rfl
@[simp] theorem ticked_coming : (s.ticked).coming = s.coming := rfl
@[simp] theorem ticked_tick : (s.ticked).tick = s.tick + 1 := rfl
@[simp] theorem ticked_stalled : (s.ticked).stalled = s.stalled := rfl
@[simp] theorem ticked_trace : (s.ticked).trace = s.trace := rfl
end

section
variable (s : State)
@[simp] theorem edgeTaken_cfg : (s.edgeTaken).cfg = s.cfg := rfl
@[simp] theorem edgeTaken_mem : (s.edgeTaken).mem = s.mem := rfl
@[simp] theorem edgeTaken_front : (s.edgeTaken).front = s.front := rfl
@[simp] theorem edgeTaken_initDone : (s.edgeTaken).initDone = s.initDone := rfl
@[simp] theorem edgeTaken_phase : (s.edgeTaken).phase = s.phase := rfl
@[simp] theorem edgeTaken_stepPtr : (s.edgeTaken).stepPtr = s.stepPtr := rfl
@[simp] theorem edgeTaken_rsp : (s.edgeTaken).rsp = s.rsp := rfl
@[simp] theorem edgeTaken_rstLvl : (s.edgeTaken).rstLvl = s.rstLvl := rfl
@[simp] theorem edgeTaken_dcLvl : (s.edgeTaken).dcLvl = s.dcLvl := rfl
@[simp] theorem edgeTaken_wr : (s.edgeTaken).wr = s.wr := rfl
@[simp] theorem edgeTaken_dly : (s.edgeTaken).dly = s.dly := rfl
@[simp] theorem edgeTaken_clrIdx : (s.edgeTaken).clrIdx = s.clrIdx := rfl
@[simp] theorem edgeTaken_cur : (s.edgeTaken).cur = s.cur := rfl
@[simp] theorem edgeTaken_ctrl : (s.edgeTaken).ctrl = s.ctrl := rfl
@[simp] theorem edgeTaken_inbox : (s.edgeTaken).inbox = s.inbox := rfl
@[simp] theorem edgeTaken_coming : (s.edgeTaken).coming = s.coming.tail := rfl
@[simp] theorem edgeTaken_tick : (s.edgeTaken).tick = s.tick + 1 := rfl
@[simp] theorem edgeTaken_stalled : (s.edgeTaken).stalled = s.stalled := rfl
@[simp] theorem edgeTaken_trace : (s.edgeTaken).trace = s.trace := rfl
end

section
variable (s : State)
@[simp] theorem resetRegisters_cfg : (s.resetRegisters).cfg = s.cfg := by unfold State.resetRegisters; split <;> simp_all
@[simp] theorem resetRegisters_mem : (s.resetRegisters).mem = s.mem := by unfold State.resetRegisters; split <;> simp_all
@[simp] theorem resetRegisters_front : (s.resetRegisters).front = 0#1 := rfl
@[simp] theorem resetRegisters_initDone : (s.resetRegisters).initDone = false := rfl
@[simp] theorem resetRegisters_phase : (s.resetRegisters).phase = .filling := rfl
@[simp] theorem resetRegisters_stepPtr : (s.resetRegisters).stepPtr = 0#6 := rfl
@[simp] theorem resetRegisters_rsp : (s.resetRegisters).rsp = ⟨0b00#2, false⟩ := rfl
@[simp] theorem resetRegisters_rstLvl : (s.resetRegisters).rstLvl = true := by unfold State.resetRegisters; split <;> simp_all
@[simp] theorem resetRegisters_dcLvl : (s.resetRegisters).dcLvl = false := by unfold State.resetRegisters; split <;> simp_all
@[simp] theorem resetRegisters_wr : (s.resetRegisters).wr = ⟨false, false, 0#14, 0#14, false⟩ := rfl
@[simp] theorem resetRegisters_dly : (s.resetRegisters).dly = ⟨false, 0#16⟩ := rfl
@[simp] theorem resetRegisters_clrIdx : (s.resetRegisters).clrIdx = 0#14 := rfl
@[simp] theorem resetRegisters_cur : (s.resetRegisters).cur = ⟨0b00#2, 0#32, 0#32, 0#4⟩ := rfl
@[simp] theorem resetRegisters_ctrl : (s.resetRegisters).ctrl = if s.wr.active = true then Config.freeCtrl s.tick else s.ctrl := by unfold State.resetRegisters; split <;> simp_all
@[simp] theorem resetRegisters_inbox : (s.resetRegisters).inbox = if s.wr.active = true then [] else s.inbox := by unfold State.resetRegisters; split <;> simp_all
@[simp] theorem resetRegisters_coming : (s.resetRegisters).coming = s.coming := by unfold State.resetRegisters; split <;> simp_all
@[simp] theorem resetRegisters_tick : (s.resetRegisters).tick = s.tick := by unfold State.resetRegisters; split <;> simp_all
@[simp] theorem resetRegisters_stalled : (s.resetRegisters).stalled = 0 := rfl
@[simp] theorem resetRegisters_trace : (s.resetRegisters).trace = s.trace ++ (if s.rstLvl = true then [] else [.rst true]) ++ (if s.dcLvl = true then [.dc false] else []) := by unfold State.resetRegisters; cases h : s.rstLvl <;> cases h2 : s.dcLvl <;> split <;> simp [h, h2]
end

section
variable (s : State) (e : Edge)
@[simp] theorem paced_cfg : (s.paced e).cfg = s.cfg := rfl
@[simp] theorem paced_mem : (s.paced e).mem = s.mem := rfl
@[simp] theorem paced_front : (s.paced e).front = s.front := rfl
@[simp] theorem paced_initDone : (s.paced e).initDone = s.initDone := rfl
@[simp] theorem paced_phase : (s.paced e).phase = s.phase := rfl
@[simp] theorem paced_stepPtr : (s.paced e).stepPtr = s.stepPtr := rfl
@[simp] theorem paced_rsp : (s.paced e).rsp = s.rsp := rfl
@[simp] theorem paced_rstLvl : (s.paced e).rstLvl = s.rstLvl := rfl
@[simp] theorem paced_dcLvl : (s.paced e).dcLvl = s.dcLvl := rfl
@[simp] theorem paced_wr : (s.paced e).wr = s.wr := rfl
@[simp] theorem paced_dly : (s.paced e).dly = s.dly := rfl
@[simp] theorem paced_clrIdx : (s.paced e).clrIdx = s.clrIdx := rfl
@[simp] theorem paced_cur : (s.paced e).cur = s.cur := rfl
@[simp] theorem paced_ctrl : (s.paced e).ctrl = s.ctrl := rfl
@[simp] theorem paced_inbox : (s.paced e).inbox = s.inbox := rfl
@[simp] theorem paced_coming : (s.paced e).coming = s.coming := rfl
@[simp] theorem paced_tick : (s.paced e).tick = s.tick := rfl
@[simp] theorem paced_stalled : (s.paced e).stalled = if s.pace e = 0 then s.stalled + 1 else 0 := rfl
@[simp] theorem paced_trace : (s.paced e).trace = s.trace := rfl

/-- R240: an edge that gets work done is not held back. -/
theorem pace_of_work {s : State} {e : Edge} (h : e.work ≠ 0) : s.pace e = e.work := by simp [pace, h]

/-- R240: the block gets nothing done only while stalls are left. -/
theorem pace_eq_zero {s : State} {e : Edge} : s.pace e = 0 ↔ e.work = 0 ∧ s.stalled ≤ Config.maxStall := by
  unfold pace
  split <;> simp_all

@[simp] theorem pace_edgeTaken (s : State) (e : Edge) : s.edgeTaken.pace e = s.pace e := rfl
end

/-- A host command answers a next state everywhere; where the block is not ready it changes nothing (R22, R209). -/
theorem whenReady_eq (s t : State) : s.whenReady t = .next (if s.phase = .idle then t else s) := by
  by_cases h : s.phase = .idle <;> simp [State.whenReady, State.cmdReady, h]

theorem whenReady_idle {s : State} (t : State) (h : s.phase = .idle) : s.whenReady t = .next t := by
  simp [whenReady_eq, h]

end Sys2Proof.Machine.State
end

