-- ==== Sys2Proof/Laws/PerInstr.lean ====
section
/-! SUPPORT. PerInstr: the family EncodeLength, one lemma per constructor: what form the words of an instruction have. -/

/-- A host instruction is one word with RSV = 0 (R93).  A controller instruction is one command byte under DC = 0 and then exactly the
argument bytes its row of R89 counts, under DC = 1 (R88). -/
def Sys2Proof.Laws.EncodeLength.Statement (i : Sys2Proof.Instr) : Prop :=
  match Sys2Proof.encode i with
  | .host w => w.extractLsb' 68 2 = 0#2
  | .stream items => ∃ (c : Sys2Proof.CtrlCmd) (args : List Sys2Proof.Byte), items = c.items args ∧ args.length = c.argCount

namespace Sys2Proof.Laws

open Sys2Proof

/-- R93: an assembled word has RSV = 0. -/
theorem hostWord_rsv (op : OpCode) (g : Gray) (y x : Coord) : (hostWord op g y x).extractLsb' 68 2 = 0#2 := by
  have h (i : Nat) : (hostWord op g y x).getLsbD i =
      (BitVec.append (BitVec.append (BitVec.append (BitVec.append op 0#2) g) y) x).getLsbD i := rfl
  apply BitVec.eq_of_getLsbD_eq
  intro i hi
  have : i = 0 ∨ i = 1 := by omega
  rcases this with rfl | rfl <;> simp only [BitVec.getLsbD_extractLsb', h, BitVec.append_eq, BitVec.getLsbD_append] <;> simp

end Sys2Proof.Laws

theorem Sys2Proof.Laws.EncodeLength.setpx (x y : Sys2Proof.Coord) (g : Sys2Proof.Gray) : Sys2Proof.Laws.EncodeLength.Statement (.setpx x y g) :=
  Sys2Proof.Laws.hostWord_rsv _ _ _ _

theorem Sys2Proof.Laws.EncodeLength.clear (g : Sys2Proof.Gray) : Sys2Proof.Laws.EncodeLength.Statement (.clear g) :=
  Sys2Proof.Laws.hostWord_rsv _ _ _ _

theorem Sys2Proof.Laws.EncodeLength.init : Sys2Proof.Laws.EncodeLength.Statement (.init) :=
  Sys2Proof.Laws.hostWord_rsv _ _ _ _

theorem Sys2Proof.Laws.EncodeLength.flush : Sys2Proof.Laws.EncodeLength.Statement (.flush) :=
  Sys2Proof.Laws.hostWord_rsv _ _ _ _

theorem Sys2Proof.Laws.EncodeLength.columnAddress (a b : Sys2Proof.Byte) : Sys2Proof.Laws.EncodeLength.Statement (.columnAddress a b) :=
  ⟨.columnAddress, [a, b], rfl, rfl⟩

theorem Sys2Proof.Laws.EncodeLength.writeRam : Sys2Proof.Laws.EncodeLength.Statement (.writeRam) :=
  ⟨.writeRam, [], rfl, rfl⟩

theorem Sys2Proof.Laws.EncodeLength.rowAddress (a b : Sys2Proof.Byte) : Sys2Proof.Laws.EncodeLength.Statement (.rowAddress a b) :=
  ⟨.rowAddress, [a, b], rfl, rfl⟩

theorem Sys2Proof.Laws.EncodeLength.muxRatio (a : Sys2Proof.Byte) : Sys2Proof.Laws.EncodeLength.Statement (.muxRatio a) :=
  ⟨.muxRatio, [a], rfl, rfl⟩

theorem Sys2Proof.Laws.EncodeLength.remap (a b : Sys2Proof.Byte) : Sys2Proof.Laws.EncodeLength.Statement (.remap a b) :=
  ⟨.remap, [a, b], rfl, rfl⟩

theorem Sys2Proof.Laws.EncodeLength.startLine (a : Sys2Proof.Byte) : Sys2Proof.Laws.EncodeLength.Statement (.startLine a) :=
  ⟨.startLine, [a], rfl, rfl⟩

theorem Sys2Proof.Laws.EncodeLength.offsetLine (a : Sys2Proof.Byte) : Sys2Proof.Laws.EncodeLength.Statement (.offsetLine a) :=
  ⟨.offsetLine, [a], rfl, rfl⟩

theorem Sys2Proof.Laws.EncodeLength.allPixelsOff : Sys2Proof.Laws.EncodeLength.Statement (.allPixelsOff) :=
  ⟨.allPixelsOff, [], rfl, rfl⟩

theorem Sys2Proof.Laws.EncodeLength.allPixelsOn : Sys2Proof.Laws.EncodeLength.Statement (.allPixelsOn) :=
  ⟨.allPixelsOn, [], rfl, rfl⟩

theorem Sys2Proof.Laws.EncodeLength.normalMode : Sys2Proof.Laws.EncodeLength.Statement (.normalMode) :=
  ⟨.normalMode, [], rfl, rfl⟩

theorem Sys2Proof.Laws.EncodeLength.invertMode : Sys2Proof.Laws.EncodeLength.Statement (.invertMode) :=
  ⟨.invertMode, [], rfl, rfl⟩

theorem Sys2Proof.Laws.EncodeLength.displayOff : Sys2Proof.Laws.EncodeLength.Statement (.displayOff) :=
  ⟨.displayOff, [], rfl, rfl⟩

theorem Sys2Proof.Laws.EncodeLength.displayOn : Sys2Proof.Laws.EncodeLength.Statement (.displayOn) :=
  ⟨.displayOn, [], rfl, rfl⟩

theorem Sys2Proof.Laws.EncodeLength.clockDivider (a : Sys2Proof.Byte) : Sys2Proof.Laws.EncodeLength.Statement (.clockDivider a) :=
  ⟨.clockDivider, [a], rfl, rfl⟩

theorem Sys2Proof.Laws.EncodeLength.enhancementA (a b : Sys2Proof.Byte) : Sys2Proof.Laws.EncodeLength.Statement (.enhancementA a b) :=
  ⟨.enhancementA, [a, b], rfl, rfl⟩

theorem Sys2Proof.Laws.EncodeLength.enhancementB (a b : Sys2Proof.Byte) : Sys2Proof.Laws.EncodeLength.Statement (.enhancementB a b) :=
  ⟨.enhancementB, [a, b], rfl, rfl⟩
end

