-- ==== Sys2Proof/Laws/Sequencer.lean ====
section
/-! SUPPORT. Laws/Sequencer: what the operations of the sequencer, the frame store and the controller write and keep. -/

namespace Sys2Proof.Machine.State

/-! The entries. -/

/-- R61: a pixel in range addresses entry `y*128 + x`. -/
theorem entryIndex_toNat {x y : Coord} (hx : x.toNat < 128) (hy : y.toNat < 64) :
    (entryIndex x y).toNat = y.toNat * 128 + x.toNat := by
  simp only [entryIndex, BitVec.toNat_append, BitVec.extractLsb'_toNat, Nat.shiftRight_zero]
  rw [Nat.mod_eq_of_lt (by omega), Nat.mod_eq_of_lt (by omega), Nat.shiftLeft_eq, ← Nat.shiftLeft_eq,
    ← Nat.shiftLeft_add_eq_or_of_lt (by omega), Nat.shiftLeft_eq]

/-- R60: the address of entry `i` of buffer `b` as a number. -/
theorem frameAddr_toNat (b : BitVec 1) (i : EntryIndex) : (frameAddr b i).toNat = b.toNat * 8192 + i.toNat := by
  have := i.isLt
  simp only [frameAddr, BitVec.toNat_append]
  rw [← Nat.shiftLeft_add_eq_or_of_lt (by omega), Nat.shiftLeft_eq]

/-- R60, R107: addresses of different buffers or different entries differ. -/
theorem frameAddr_inj {b b' : BitVec 1} {i i' : EntryIndex} (h : frameAddr b i = frameAddr b' i') : b = b' ∧ i = i' := by
  have h1 := congrArg BitVec.toNat h
  rw [frameAddr_toNat, frameAddr_toNat] at h1
  have := i.isLt; have := i'.isLt; have := b.isLt; have := b'.isLt
  exact ⟨BitVec.eq_of_toNat_eq (by omega), BitVec.eq_of_toNat_eq (by omega)⟩

/-- Every address is an entry of a buffer. -/
theorem frameAddr_surj (a : FrameAddr) : ∃ b i, frameAddr b i = a := by
  have ha := a.isLt
  refine ⟨BitVec.ofNat 1 (a.toNat / 8192), BitVec.ofNat 13 (a.toNat % 8192), BitVec.eq_of_toNat_eq ?_⟩
  rw [frameAddr_toNat]
  simp only [BitVec.toNat_ofNat]
  omega

/-- R101: back is not front. -/
theorem back_ne_front (s : State) : s.back ≠ s.front := by
  intro h
  have h1 := congrArg BitVec.toNat h
  have := s.front.isLt
  rcases (show s.front = 0#1 ∨ s.front = 1#1 from by
    have : s.front.toNat = 0 ∨ s.front.toNat = 1 := by omega
    exact this.imp (fun h => BitVec.eq_of_toNat_eq h) (fun h => BitVec.eq_of_toNat_eq h)) with h0 | h0 <;>
    simp [State.back, h0] at h1

/-! SETPX. -/

section
variable (s : State) (x y : Coord) (g : Gray)
@[simp] theorem setPixel_mem : (s.setPixel x y g).mem =
    if inRange x y = true then s.mem.write (frameAddr s.back (entryIndex x y)) (entryOf g) else s.mem := by
  unfold setPixel; split <;> simp_all
@[simp] theorem setPixel_cfg : (s.setPixel x y g).cfg = s.cfg := by unfold setPixel; split <;> rfl
@[simp] theorem setPixel_front : (s.setPixel x y g).front = s.front := by unfold setPixel; split <;> rfl
@[simp] theorem setPixel_initDone : (s.setPixel x y g).initDone = s.initDone := by unfold setPixel; split <;> rfl
@[simp] theorem setPixel_phase : (s.setPixel x y g).phase = s.phase := by unfold setPixel; split <;> rfl
@[simp] theorem setPixel_stepPtr : (s.setPixel x y g).stepPtr = s.stepPtr := by unfold setPixel; split <;> rfl
@[simp] theorem setPixel_rsp : (s.setPixel x y g).rsp = s.rsp := by unfold setPixel; split <;> rfl
@[simp] theorem setPixel_rstLvl : (s.setPixel x y g).rstLvl = s.rstLvl := by unfold setPixel; split <;> rfl
@[simp] theorem setPixel_dcLvl : (s.setPixel x y g).dcLvl = s.dcLvl := by unfold setPixel; split <;> rfl
@[simp] theorem setPixel_wr : (s.setPixel x y g).wr = s.wr := by unfold setPixel; split <;> rfl
@[simp] theorem setPixel_dly : (s.setPixel x y g).dly = s.dly := by unfold setPixel; split <;> rfl
@[simp] theorem setPixel_clrIdx : (s.setPixel x y g).clrIdx = s.clrIdx := by unfold setPixel; split <;> rfl
@[simp] theorem setPixel_cur : (s.setPixel x y g).cur = s.cur := by unfold setPixel; split <;> rfl
@[simp] theorem setPixel_ctrl : (s.setPixel x y g).ctrl = s.ctrl := by unfold setPixel; split <;> rfl
@[simp] theorem setPixel_inbox : (s.setPixel x y g).inbox = s.inbox := by unfold setPixel; split <;> rfl
@[simp] theorem setPixel_coming : (s.setPixel x y g).coming = s.coming := by unfold setPixel; split <;> rfl
@[simp] theorem setPixel_tick : (s.setPixel x y g).tick = s.tick := by unfold setPixel; split <;> rfl
@[simp] theorem setPixel_stalled : (s.setPixel x y g).stalled = s.stalled := by unfold setPixel; split <;> rfl
@[simp] theorem setPixel_trace : (s.setPixel x y g).trace = s.trace := by unfold setPixel; split <;> rfl
end

/-- Two pixels in range that share an entry index are one pixel; SETPX writes no other entry. -/
theorem setPixel_entry_other (s : State) (x y : Coord) (g : Gray) (b : BitVec 1) (i : EntryIndex)
    (h : b ≠ s.back ∨ i ≠ entryIndex x y) : (s.setPixel x y g).entry b i = s.entry b i := by
  unfold entry
  rw [setPixel_mem]
  split
  · refine Memory.read_write_other _ _ fun hh => ?_
    obtain ⟨hb, hi⟩ := frameAddr_inj hh
    exact h.elim (fun h => h hb) (fun h => h hi)
  · rfl

/-! The fills. -/

/-- The entries the next edge of a CLEAR fills. -/
theorem clearEdge_spec {s : State} (h : s.mem.wf = true) (e : Edge) (b : BitVec 1) (i : EntryIndex) :
    (s.clearEdge e).entry b i =
      if b = s.back ∧ s.clrIdx.toNat ≤ i.toNat ∧ i.toNat < s.clrIdx.toNat + min (s.pace e) (bufEntries - s.clrIdx.toNat)
      then entryOf s.cur.gray else s.entry b i := by
  have hmem : (s.clearEdge e).mem = s.mem.fill (frameAddr s.back 0#13 + s.clrIdx) (entryOf s.cur.gray)
      (min (s.pace e) (bufEntries - s.clrIdx.toNat)) := by
    unfold clearEdge; dsimp only; split <;> rfl
  have hc := s.clrIdx.isLt
  have hi := i.isLt
  have hb := b.isLt
  have hb' := s.back.isLt
  unfold entry
  rw [hmem]
  by_cases hlt : s.clrIdx.toNat < 8192
  · have hstart : (frameAddr s.back 0#13 + s.clrIdx).toNat = s.back.toNat * 8192 + s.clrIdx.toNat := by
      rw [BitVec.toNat_add, frameAddr_toNat]; simp; omega
    rw [Memory.read_fill h _ _ _ (by simp only [frameEntries, bufEntries]; omega), hstart, frameAddr_toNat]
    congr 1
    simp only [bufEntries, BitVec.toNat_eq, eq_iff_iff]
    constructor
    · rintro ⟨h1, h2⟩; refine ⟨by omega, by omega, by omega⟩
    · rintro ⟨h1, h2, h3⟩; rw [h1]; omega
  · have : min (s.pace e) (bufEntries - s.clrIdx.toNat) = 0 := by simp only [bufEntries]; omega
    rw [this, if_neg (by omega)]
    rfl

/-- The entries the next edge of the reset fill zeroes. -/
theorem fillEdge_spec {s : State} (h : s.mem.wf = true) (e : Edge) (a : FrameAddr) :
    (s.fillEdge e).mem.read a =
      if s.clrIdx.toNat ≤ a.toNat ∧ a.toNat < s.clrIdx.toNat + min (s.pace e) (frameEntries - s.clrIdx.toNat)
      then 0x00#8 else s.mem.read a := by
  have hmem : (s.fillEdge e).mem = s.mem.fill s.clrIdx 0x00#8 (min (s.pace e) (frameEntries - s.clrIdx.toNat)) := by
    unfold fillEdge; dsimp only; split <;> rfl
  have hc := s.clrIdx.isLt
  rw [hmem, Memory.read_fill h _ _ _ (by simp only [frameEntries]; omega)]

/-- What an edge of a CLEAR keeps. -/
theorem clearEdge_frame (s : State) (e : Edge) : s.clearEdge e =
    { s with mem := (s.clearEdge e).mem, clrIdx := (s.clearEdge e).clrIdx, phase := (s.clearEdge e).phase, rsp := (s.clearEdge e).rsp,
             stalled := (s.clearEdge e).stalled } := by
  unfold clearEdge; dsimp only; split <;> rfl

/-- What an edge of the reset fill keeps. -/
theorem fillEdge_frame (s : State) (e : Edge) : s.fillEdge e =
    { s with mem := (s.fillEdge e).mem, clrIdx := (s.fillEdge e).clrIdx, phase := (s.fillEdge e).phase,
             stalled := (s.fillEdge e).stalled } := by
  unfold fillEdge; dsimp only; split <;> rfl

/-! A write's bytes. -/

theorem frame_length (s : State) (b : BitVec 1) : ((List.range bufEntries).map fun i => s.entry b (BitVec.ofNat 13 i)).length = bufEntries := by
  simp

/-- WR_LEN is the number of bytes the write sends. -/
theorem writeBytes_length (s : State) (st : SeqStep) : (s.writeBytes st).length = st.writeLen := by
  cases st <;> simp [writeBytes, SeqStep.writeLen, payload]

/-- R162: byte `b_k` is the k-th of the write's bytes. -/
theorem writeByte_eq (s : State) (st : SeqStep) (k : Nat) (hk : k < st.writeLen) :
    (s.writeBytes st)[k]? = some (s.writeByte k st) := by
  cases st with
  | cmd c => have : k = 0 := by simp [SeqStep.writeLen] at hk; omega
             subst this; rfl
  | dat ds => simp only [SeqStep.writeLen] at hk; simp [writeBytes, writeByte, List.getD, hk]
  | payload => simp only [SeqStep.writeLen] at hk; simp [writeBytes, writeByte, payload, hk]
  | _ => simp [SeqStep.writeLen] at hk

/-! Writes that end. -/

section
variable (s : State) (e : Edge) (st : SeqStep)

/-- R163, R164, R169, R201: all that a failed write changes. -/
theorem failWrite_eq : s.failWrite e st =
    { s with
      trace := s.trace ++ [.wr s.wr.dc (s.writeBytes st) false]
      inbox := s.inbox ++ ((s.writeBytes st).take e.received).map (fun b => ⟨s.wr.dc, b⟩)
      wr := { s.wr with active := false }
      rsp := ⟨s.cur.op, true⟩
      phase := .respond } := rfl

/-- R163: all that a successful write changes. -/
theorem completeWrite_eq : s.completeWrite st =
    { s with
      trace := s.trace ++ [.wr s.wr.dc (s.writeBytes st) true]
      inbox := s.inbox ++ (s.writeBytes st).map (fun b => ⟨s.wr.dc, b⟩)
      wr := { s.wr with active := false }
      stepPtr := s.stepPtr + 1#6 } := rfl

end

/-- An offer keeps WR_ACTIVE, WR_DC and WR_LEN and moves WR_POS by at most one. -/
theorem offer_keeps (w : Writer) (e : Edge) (k : Nat) :
    (w.offer e k).active = w.active ∧ (w.offer e k).dc = w.dc ∧ (w.offer e k).len = w.len ∧
      ((w.offer e k).pos = w.pos ∨ (w.offer e k).pos = w.pos + 1#14) := by
  unfold Writer.offer
  split
  · simp
  · split <;> simp

section
variable (s : State) (e : Edge)
@[simp] theorem offerByte_cfg : (s.offerByte e).cfg = s.cfg := rfl
@[simp] theorem offerByte_mem : (s.offerByte e).mem = s.mem := rfl
@[simp] theorem offerByte_front : (s.offerByte e).front = s.front := rfl
@[simp] theorem offerByte_initDone : (s.offerByte e).initDone = s.initDone := rfl
@[simp] theorem offerByte_phase : (s.offerByte e).phase = s.phase := rfl
@[simp] theorem offerByte_stepPtr : (s.offerByte e).stepPtr = s.stepPtr := rfl
@[simp] theorem offerByte_rsp : (s.offerByte e).rsp = s.rsp := rfl
@[simp] theorem offerByte_rstLvl : (s.offerByte e).rstLvl = s.rstLvl := rfl
@[simp] theorem offerByte_dcLvl : (s.offerByte e).dcLvl = s.dcLvl := rfl
@[simp] theorem offerByte_wr : (s.offerByte e).wr = s.wr.offer e s.stalled := rfl
@[simp] theorem offerByte_dly : (s.offerByte e).dly = s.dly := rfl
@[simp] theorem offerByte_clrIdx : (s.offerByte e).clrIdx = s.clrIdx := rfl
@[simp] theorem offerByte_cur : (s.offerByte e).cur = s.cur := rfl
@[simp] theorem offerByte_ctrl : (s.offerByte e).ctrl = s.ctrl := rfl
@[simp] theorem offerByte_inbox : (s.offerByte e).inbox = s.inbox := rfl
@[simp] theorem offerByte_coming : (s.offerByte e).coming = s.coming := rfl
@[simp] theorem offerByte_tick : (s.offerByte e).tick = s.tick := rfl
@[simp] theorem offerByte_stalled : (s.offerByte e).stalled = if s.wr.gap = true then s.stalled + 1 else if e.txReady = true then 0 else s.stalled := rfl
@[simp] theorem offerByte_trace : (s.offerByte e).trace = s.trace := rfl
end

/-- R163, R129: what DONE leaves. -/
theorem finishSequence_init {s : State} (h : s.phase = .initSeq) : s.finishSequence = (s.setInitDone true).respond 0b10#2 false := by
  simp [finishSequence, h]

theorem finishSequence_flush {s : State} (h : s.phase = .flushSeq) : s.finishSequence = s.respond 0b11#2 false := by
  simp [finishSequence, h]

section
variable (s : State) (e : Edge) (st : SeqStep)
@[simp] theorem failWrite_cfg : (s.failWrite e st).cfg = s.cfg := by simp [failWrite]
@[simp] theorem failWrite_mem : (s.failWrite e st).mem = s.mem := by simp [failWrite]
@[simp] theorem failWrite_front : (s.failWrite e st).front = s.front := by simp [failWrite]
@[simp] theorem failWrite_initDone : (s.failWrite e st).initDone = s.initDone := by simp [failWrite]
@[simp] theorem failWrite_phase : (s.failWrite e st).phase = .respond := by simp [failWrite]
@[simp] theorem failWrite_stepPtr : (s.failWrite e st).stepPtr = s.stepPtr := by simp [failWrite]
@[simp] theorem failWrite_rsp : (s.failWrite e st).rsp = ⟨s.cur.op, true⟩ := by simp [failWrite]
@[simp] theorem failWrite_rstLvl : (s.failWrite e st).rstLvl = s.rstLvl := by simp [failWrite]
@[simp] theorem failWrite_dcLvl : (s.failWrite e st).dcLvl = s.dcLvl := by simp [failWrite]
@[simp] theorem failWrite_wr : (s.failWrite e st).wr = ⟨false, s.wr.dc, s.wr.len, s.wr.pos, s.wr.gap⟩ := by simp [failWrite]
@[simp] theorem failWrite_dly : (s.failWrite e st).dly = s.dly := by simp [failWrite]
@[simp] theorem failWrite_clrIdx : (s.failWrite e st).clrIdx = s.clrIdx := by simp [failWrite]
@[simp] theorem failWrite_cur : (s.failWrite e st).cur = s.cur := by simp [failWrite]
@[simp] theorem failWrite_ctrl : (s.failWrite e st).ctrl = s.ctrl := by simp [failWrite]
@[simp] theorem failWrite_inbox : (s.failWrite e st).inbox = s.inbox ++ ((s.writeBytes st).take e.received).map (fun b => ⟨s.wr.dc, b⟩) := by simp [failWrite]
@[simp] theorem failWrite_coming : (s.failWrite e st).coming = s.coming := by simp [failWrite]
@[simp] theorem failWrite_tick : (s.failWrite e st).tick = s.tick := by simp [failWrite]
@[simp] theorem failWrite_stalled : (s.failWrite e st).stalled = s.stalled := by simp [failWrite]
@[simp] theorem failWrite_trace : (s.failWrite e st).trace = s.trace ++ [.wr s.wr.dc (s.writeBytes st) false] := by simp [failWrite]
end

section
variable (s : State) (st : SeqStep)
@[simp] theorem completeWrite_cfg : (s.completeWrite st).cfg = s.cfg := by simp [completeWrite]
@[simp] theorem completeWrite_mem : (s.completeWrite st).mem = s.mem := by simp [completeWrite]
@[simp] theorem completeWrite_front : (s.completeWrite st).front = s.front := by simp [completeWrite]
@[simp] theorem completeWrite_initDone : (s.completeWrite st).initDone = s.initDone := by simp [completeWrite]
@[simp] theorem completeWrite_phase : (s.completeWrite st).phase = s.phase := by simp [completeWrite]
@[simp] theorem completeWrite_stepPtr : (s.completeWrite st).stepPtr = s.stepPtr + 1#6 := by simp [completeWrite]
@[simp] theorem completeWrite_rsp : (s.completeWrite st).rsp = s.rsp := by simp [completeWrite]
@[simp] theorem completeWrite_rstLvl : (s.completeWrite st).rstLvl = s.rstLvl := by simp [completeWrite]
@[simp] theorem completeWrite_dcLvl : (s.completeWrite st).dcLvl = s.dcLvl := by simp [completeWrite]
@[simp] theorem completeWrite_wr : (s.completeWrite st).wr = ⟨false, s.wr.dc, s.wr.len, s.wr.pos, s.wr.gap⟩ := by simp [completeWrite]
@[simp] theorem completeWrite_dly : (s.completeWrite st).dly = s.dly := by simp [completeWrite]
@[simp] theorem completeWrite_clrIdx : (s.completeWrite st).clrIdx = s.clrIdx := by simp [completeWrite]
@[simp] theorem completeWrite_cur : (s.completeWrite st).cur = s.cur := by simp [completeWrite]
@[simp] theorem completeWrite_ctrl : (s.completeWrite st).ctrl = s.ctrl := by simp [completeWrite]
@[simp] theorem completeWrite_inbox : (s.completeWrite st).inbox = s.inbox ++ (s.writeBytes st).map (fun b => ⟨s.wr.dc, b⟩) := by simp [completeWrite]
@[simp] theorem completeWrite_coming : (s.completeWrite st).coming = s.coming := by simp [completeWrite]
@[simp] theorem completeWrite_tick : (s.completeWrite st).tick = s.tick := by simp [completeWrite]
@[simp] theorem completeWrite_stalled : (s.completeWrite st).stalled = s.stalled := by simp [completeWrite]
@[simp] theorem completeWrite_trace : (s.completeWrite st).trace = s.trace ++ [.wr s.wr.dc (s.writeBytes st) true] := by simp [completeWrite]
end

section
variable (s : State) (e : Edge)
@[simp] theorem commandTaken_cfg : (s.commandTaken e).cfg = s.cfg := rfl
@[simp] theorem commandTaken_mem : (s.commandTaken e).mem = s.mem := rfl
@[simp] theorem commandTaken_front : (s.commandTaken e).front = s.front := rfl
@[simp] theorem commandTaken_initDone : (s.commandTaken e).initDone = s.initDone := rfl
@[simp] theorem commandTaken_phase : (s.commandTaken e).phase = s.phase := rfl
@[simp] theorem commandTaken_stepPtr : (s.commandTaken e).stepPtr = s.stepPtr := rfl
@[simp] theorem commandTaken_rsp : (s.commandTaken e).rsp = s.rsp := rfl
@[simp] theorem commandTaken_rstLvl : (s.commandTaken e).rstLvl = s.rstLvl := rfl
@[simp] theorem commandTaken_dcLvl : (s.commandTaken e).dcLvl = s.dcLvl := rfl
@[simp] theorem commandTaken_wr : (s.commandTaken e).wr = s.wr := rfl
@[simp] theorem commandTaken_dly : (s.commandTaken e).dly = s.dly := rfl
@[simp] theorem commandTaken_clrIdx : (s.commandTaken e).clrIdx = s.clrIdx := rfl
@[simp] theorem commandTaken_cur : (s.commandTaken e).cur = s.cur := rfl
@[simp] theorem commandTaken_ctrl : (s.commandTaken e).ctrl = s.ctrl := rfl
@[simp] theorem commandTaken_inbox : (s.commandTaken e).inbox = s.inbox := rfl
@[simp] theorem commandTaken_coming : (s.commandTaken e).coming = s.coming.tail := rfl
@[simp] theorem commandTaken_tick : (s.commandTaken e).tick = s.tick + 1 := rfl
@[simp] theorem commandTaken_stalled : (s.commandTaken e).stalled = s.stalled := rfl
@[simp] theorem commandTaken_trace : (s.commandTaken e).trace = s.trace ++ [.cmd e.cmdWord] := rfl
end

/-! What a finished sequence, a started step and the two fills keep. -/

section
variable (s : State) 
@[simp] theorem finishSequence_cfg : (s.finishSequence).cfg = s.cfg := by unfold finishSequence; split <;> rfl
@[simp] theorem finishSequence_mem : (s.finishSequence).mem = s.mem := by unfold finishSequence; split <;> rfl
@[simp] theorem finishSequence_front : (s.finishSequence).front = s.front := by unfold finishSequence; split <;> rfl
@[simp] theorem finishSequence_stepPtr : (s.finishSequence).stepPtr = s.stepPtr := by unfold finishSequence; split <;> rfl
@[simp] theorem finishSequence_rstLvl : (s.finishSequence).rstLvl = s.rstLvl := by unfold finishSequence; split <;> rfl
@[simp] theorem finishSequence_dcLvl : (s.finishSequence).dcLvl = s.dcLvl := by unfold finishSequence; split <;> rfl
@[simp] theorem finishSequence_wr : (s.finishSequence).wr = s.wr := by unfold finishSequence; split <;> rfl
@[simp] theorem finishSequence_dly : (s.finishSequence).dly = s.dly := by unfold finishSequence; split <;> rfl
@[simp] theorem finishSequence_clrIdx : (s.finishSequence).clrIdx = s.clrIdx := by unfold finishSequence; split <;> rfl
@[simp] theorem finishSequence_cur : (s.finishSequence).cur = s.cur := by unfold finishSequence; split <;> rfl
@[simp] theorem finishSequence_ctrl : (s.finishSequence).ctrl = s.ctrl := by unfold finishSequence; split <;> rfl
@[simp] theorem finishSequence_inbox : (s.finishSequence).inbox = s.inbox := by unfold finishSequence; split <;> rfl
@[simp] theorem finishSequence_coming : (s.finishSequence).coming = s.coming := by unfold finishSequence; split <;> rfl
@[simp] theorem finishSequence_tick : (s.finishSequence).tick = s.tick := by unfold finishSequence; split <;> rfl
@[simp] theorem finishSequence_stalled : (s.finishSequence).stalled = s.stalled := by unfold finishSequence; split <;> rfl
@[simp] theorem finishSequence_trace : (s.finishSequence).trace = s.trace := by unfold finishSequence; split <;> rfl
end

section
variable (s : State) (e : Edge) (st : SeqStep)
@[simp] theorem startStep_cfg : (s.startStep e st).cfg = s.cfg := by cases st <;> simp [startStep]
@[simp] theorem startStep_mem : (s.startStep e st).mem = s.mem := by cases st <;> simp [startStep]
@[simp] theorem startStep_clrIdx : (s.startStep e st).clrIdx = s.clrIdx := by cases st <;> simp [startStep]
@[simp] theorem startStep_cur : (s.startStep e st).cur = s.cur := by cases st <;> simp [startStep]
@[simp] theorem startStep_coming : (s.startStep e st).coming = s.coming := by cases st <;> simp [startStep]
@[simp] theorem startStep_tick : (s.startStep e st).tick = s.tick := by cases st <;> simp [startStep]
@[simp] theorem startStep_stalled : (s.startStep e st).stalled = s.stalled := by cases st <;> simp [startStep]
end

section
variable (s : State) (e : Edge)
@[simp] theorem clearEdge_cfg : (s.clearEdge e).cfg = s.cfg := by unfold clearEdge; dsimp only; split <;> rfl
@[simp] theorem clearEdge_front : (s.clearEdge e).front = s.front := by unfold clearEdge; dsimp only; split <;> rfl
@[simp] theorem clearEdge_initDone : (s.clearEdge e).initDone = s.initDone := by unfold clearEdge; dsimp only; split <;> rfl
@[simp] theorem clearEdge_stepPtr : (s.clearEdge e).stepPtr = s.stepPtr := by unfold clearEdge; dsimp only; split <;> rfl
@[simp] theorem clearEdge_rstLvl : (s.clearEdge e).rstLvl = s.rstLvl := by unfold clearEdge; dsimp only; split <;> rfl
@[simp] theorem clearEdge_dcLvl : (s.clearEdge e).dcLvl = s.dcLvl := by unfold clearEdge; dsimp only; split <;> rfl
@[simp] theorem clearEdge_wr : (s.clearEdge e).wr = s.wr := by unfold clearEdge; dsimp only; split <;> rfl
@[simp] theorem clearEdge_dly : (s.clearEdge e).dly = s.dly := by unfold clearEdge; dsimp only; split <;> rfl
@[simp] theorem clearEdge_cur : (s.clearEdge e).cur = s.cur := by unfold clearEdge; dsimp only; split <;> rfl
@[simp] theorem clearEdge_ctrl : (s.clearEdge e).ctrl = s.ctrl := by unfold clearEdge; dsimp only; split <;> rfl
@[simp] theorem clearEdge_inbox : (s.clearEdge e).inbox = s.inbox := by unfold clearEdge; dsimp only; split <;> rfl
@[simp] theorem clearEdge_coming : (s.clearEdge e).coming = s.coming := by unfold clearEdge; dsimp only; split <;> rfl
@[simp] theorem clearEdge_tick : (s.clearEdge e).tick = s.tick := by unfold clearEdge; dsimp only; split <;> rfl
@[simp] theorem clearEdge_stalled : (s.clearEdge e).stalled = if s.pace e = 0 then s.stalled + 1 else 0 := by unfold clearEdge; dsimp only; split <;> rfl
@[simp] theorem clearEdge_trace : (s.clearEdge e).trace = s.trace := by unfold clearEdge; dsimp only; split <;> rfl
end

section
variable (s : State) (e : Edge)
@[simp] theorem fillEdge_cfg : (s.fillEdge e).cfg = s.cfg := by unfold fillEdge; dsimp only; split <;> rfl
@[simp] theorem fillEdge_front : (s.fillEdge e).front = s.front := by unfold fillEdge; dsimp only; split <;> rfl
@[simp] theorem fillEdge_initDone : (s.fillEdge e).initDone = s.initDone := by unfold fillEdge; dsimp only; split <;> rfl
@[simp] theorem fillEdge_stepPtr : (s.fillEdge e).stepPtr = s.stepPtr := by unfold fillEdge; dsimp only; split <;> rfl
@[simp] theorem fillEdge_rsp : (s.fillEdge e).rsp = s.rsp := by unfold fillEdge; dsimp only; split <;> rfl
@[simp] theorem fillEdge_rstLvl : (s.fillEdge e).rstLvl = s.rstLvl := by unfold fillEdge; dsimp only; split <;> rfl
@[simp] theorem fillEdge_dcLvl : (s.fillEdge e).dcLvl = s.dcLvl := by unfold fillEdge; dsimp only; split <;> rfl
@[simp] theorem fillEdge_wr : (s.fillEdge e).wr = s.wr := by unfold fillEdge; dsimp only; split <;> rfl
@[simp] theorem fillEdge_dly : (s.fillEdge e).dly = s.dly := by unfold fillEdge; dsimp only; split <;> rfl
@[simp] theorem fillEdge_cur : (s.fillEdge e).cur = s.cur := by unfold fillEdge; dsimp only; split <;> rfl
@[simp] theorem fillEdge_ctrl : (s.fillEdge e).ctrl = s.ctrl := by unfold fillEdge; dsimp only; split <;> rfl
@[simp] theorem fillEdge_inbox : (s.fillEdge e).inbox = s.inbox := by unfold fillEdge; dsimp only; split <;> rfl
@[simp] theorem fillEdge_coming : (s.fillEdge e).coming = s.coming := by unfold fillEdge; dsimp only; split <;> rfl
@[simp] theorem fillEdge_tick : (s.fillEdge e).tick = s.tick := by unfold fillEdge; dsimp only; split <;> rfl
@[simp] theorem fillEdge_stalled : (s.fillEdge e).stalled = if s.pace e = 0 then s.stalled + 1 else 0 := by unfold fillEdge; dsimp only; split <;> rfl
@[simp] theorem fillEdge_trace : (s.fillEdge e).trace = s.trace := by unfold fillEdge; dsimp only; split <;> rfl
end

/-! The controller's data. -/

theorem takeData_eq (s : State) (bytes : List Byte) : s.takeData bytes =
    s.setCtrl (if s.ctrl.ramOpen = true then
      { s.ctrl with ramFresh := false, ram := if s.ctrl.ramFresh = true then bytes else s.ctrl.ram ++ bytes }
      else { Config.freeCtrl s.tick with ramOpen := false, ram := s.ctrl.ram }) := by
  unfold takeData; split <;> rfl

end Sys2Proof.Machine.State
end

