-- ==== Sys2Proof/Laws/Step.lean ====
section
/-! SUPPORT. Laws/Step: what one step can do, said once.  `ExecDoes` for an instruction, `EdgeDoes` for an edge inside a sequence
step, `StepDoes` for a step of the machine. -/

namespace Sys2Proof.Machine

/-- What an instruction does when it answers a next state. -/
inductive ExecDoes (s : State) : State → Prop where
  /-- a controller command writes the controller's registers -/
  | controller (r : CtrlRegs) : ExecDoes s (s.setCtrl r)
  /-- a host command waits (R209) -/
  | waits (h : s.phase ≠ .idle) : ExecDoes s s
  | setpx (h : s.phase = .idle) (x y : Coord) (g : Gray) :
      ExecDoes s (((s.setCur ⟨0b00#2, x, y, g⟩).setPixel x y g).respond 0b00#2 false)
  | clear (h : s.phase = .idle) (g : Gray) :
      ExecDoes s (((s.setCur { s.cur with op := 0b01#2, gray := g }).setClrIdx 0#14).setPhase .clearing)
  | init (h : s.phase = .idle) :
      ExecDoes s ((((s.setCur { s.cur with op := 0b10#2 }).setInitDone false).setStepPtr 0#6).setPhase .initSeq)
  | flush (h : s.phase = .idle) :
      ExecDoes s (((s.setCur { s.cur with op := 0b11#2 }).setStepPtr 0#6).setPhase .flushSeq)

theorem ExecDoes.whenReady {s t a : State} (ha : s.phase = .idle → ExecDoes s a) (h : s.whenReady a = .next t) : ExecDoes s t := by
  rw [State.whenReady_eq] at h
  by_cases hp : s.phase = .idle
  · simp [hp] at h; exact h ▸ ha hp
  · simp [hp] at h; exact h ▸ .waits hp

theorem exec_does {i : Instr} {s t : State} (h : exec i s = .next t) : ExecDoes s t := by
  cases i with
  | setpx x y g => exact .whenReady (fun hp => .setpx hp x y g) h
  | clear g => exact .whenReady (fun hp => .clear hp g) h
  | init => exact .whenReady (fun hp => .init hp) h
  | flush => exact .whenReady (fun hp => .flush hp) h
  | _ => exact Host.Outcome.next.inj h ▸ .controller _

/-- No instruction stops. -/
theorem exec_next (i : Instr) (s : State) : ∃ t, exec i s = .next t := by
  cases i with
  | setpx x y g => exact ⟨_, State.whenReady_eq _ _⟩
  | clear g => exact ⟨_, State.whenReady_eq _ _⟩
  | init => exact ⟨_, State.whenReady_eq _ _⟩
  | flush => exact ⟨_, State.whenReady_eq _ _⟩
  | _ => exact ⟨_, rfl⟩

/-- What an edge inside a sequence step does. -/
inductive EdgeDoes (e : Edge) (s : State) (st : SeqStep) : State → Prop where
  /-- the step waits for the transport or the delay provider -/
  | waits (h : s.wr.active = true ∧ s.wr.unsent = false ∧ e.txRespValid = false ∨
      s.wr.active = false ∧ s.dly.active = true ∧ e.dlyDone = false) : EdgeDoes e s st s
  /-- the block gets nothing done (R240) -/
  | stalls (ha : s.wr.active = false) (hd : s.dly.active = false) (hw : s.pace e = 0) : EdgeDoes e s st (s.paced e)
  /-- a byte of the write is on offer -/
  | offers (ha : s.wr.active = true) (hu : s.wr.unsent = true) : EdgeDoes e s st (s.offerByte e)
  /-- the write fails before its last byte was accepted (R164) -/
  | failsEarly (ha : s.wr.active = true) (hu : s.wr.unsent = true) (hv : e.txRespValid = true) (he : e.txRespErr = true) :
      EdgeDoes e s st ((s.offerByte e).failWrite e st)
  /-- the write fails after its last byte was accepted (R163) -/
  | failsLate (ha : s.wr.active = true) (hu : s.wr.unsent = false) (hv : e.txRespValid = true) (he : e.txRespErr = true) :
      EdgeDoes e s st (s.failWrite e st)
  /-- the write succeeds (R163) -/
  | completes (ha : s.wr.active = true) (hu : s.wr.unsent = false) (hv : e.txRespValid = true) (he : e.txRespErr = false) :
      EdgeDoes e s st (s.completeWrite st)
  /-- the delay ends (R120) -/
  | delayEnds (ha : s.wr.active = false) (hd : s.dly.active = true) (hv : e.dlyDone = true) :
      EdgeDoes e s st (((s.log (.dly s.dly.ms)).setDly { s.dly with active := false }).advance)
  /-- the step starts (R90) -/
  | starts (ha : s.wr.active = false) (hd : s.dly.active = false) (hw : s.pace e ≠ 0) :
      EdgeDoes e s st ((s.paced e).startStep e st)

/-- What no edge inside a sequence step changes. -/
theorem EdgeDoes.keeps {e : Edge} {s t : State} {st : SeqStep} (h : EdgeDoes e s st t) :
    t.cfg = s.cfg ∧ t.mem = s.mem ∧ t.clrIdx = s.clrIdx ∧ t.cur = s.cur ∧ t.coming = s.coming ∧ t.tick = s.tick := by
  cases h <;> simp

theorem stepEdge_does (e : Edge) (s : State) (st : SeqStep) : EdgeDoes e s st (s.stepEdge e st) := by
  unfold State.stepEdge
  by_cases ha : s.wr.active = true
  · rw [if_pos ha]
    unfold State.writeEdge
    by_cases hu : s.wr.unsent = true
    · rw [if_pos hu]
      split
      · rename_i h; simp only [Bool.and_eq_true] at h; exact .failsEarly ha hu h.1 h.2
      · exact .offers ha hu
    · rw [if_neg hu]
      have hu' : s.wr.unsent = false := by simpa using hu
      split
      · rename_i hv
        split
        · rename_i he; exact .failsLate ha hu' hv he
        · rename_i he; exact .completes ha hu' hv (by simpa using he)
      · rename_i hv; exact .waits (.inl ⟨ha, hu', by simpa using hv⟩)
  · rw [if_neg ha]
    have ha' : s.wr.active = false := by simpa using ha
    by_cases hd : s.dly.active = true
    · rw [if_pos hd]
      unfold State.delayEdge
      split
      · rename_i hv; exact .delayEnds ha' hd hv
      · rename_i hv; exact .waits (.inr ⟨ha', hd, by simpa using hv⟩)
    · rw [if_neg hd]
      split
      · rename_i hw; exact .stalls ha' (by simpa using hd) hw
      · rename_i hw; exact .starts ha' (by simpa using hd) hw

/-- What one step of the machine does when it answers a next state. -/
inductive StepDoes (s : State) : State → Prop where
  /-- the controller runs a whole command -/
  | command (i : Instr) (rest : List BusByte) (hr : readStream s.inbox = .command i rest) (t : State)
      (h : exec i (s.setInbox rest).ticked = .next t) : StepDoes s t
  /-- the controller takes data bytes -/
  | data (bytes : List Byte) (rest : List BusByte) (hr : readStream s.inbox = .data bytes rest) :
      StepDoes s ((s.setInbox rest).ticked.takeData bytes)
  /-- a command at the controller was cut short -/
  | cutShort (rest : List BusByte) (hr : readStream s.inbox = .cutShort rest) : StepDoes s (s.setInbox rest).ticked.regsUnknown
  /-- `rst_n` = 0 -/
  | reset (hq : readStream s.inbox = .waiting) (hn : s.edge.rstN = false) : StepDoes s s.edgeTaken.resetRegisters
  /-- a host command is accepted -/
  | accept (hq : readStream s.inbox = .waiting) (hn : s.edge.rstN = true) (hp : s.phase = .idle) (hv : s.edge.cmdValid = true)
      (t : State) (h : exec (decodeHost s.edge.cmdWord) (s.commandTaken s.edge) = .next t) : StepDoes s t
  /-- the host offers nothing -/
  | still (hq : readStream s.inbox = .waiting) (hn : s.edge.rstN = true) (hp : s.phase = .idle) (hv : s.edge.cmdValid = false) :
      StepDoes s s.edgeTaken
  | clears (hq : readStream s.inbox = .waiting) (hn : s.edge.rstN = true) (hp : s.phase = .clearing) :
      StepDoes s (s.edgeTaken.clearEdge s.edge)
  | fills (hq : readStream s.inbox = .waiting) (hn : s.edge.rstN = true) (hp : s.phase = .filling) :
      StepDoes s (s.edgeTaken.fillEdge s.edge)
  /-- the response waits for the host -/
  | responds (hq : readStream s.inbox = .waiting) (hn : s.edge.rstN = true) (hp : s.phase = .respond) (hv : s.edge.rspReady = false) :
      StepDoes s s.edgeTaken
  /-- the host takes the response -/
  | taken (hq : readStream s.inbox = .waiting) (hn : s.edge.rstN = true) (hp : s.phase = .respond) (hv : s.edge.rspReady = true) :
      StepDoes s s.edgeTaken.takeResponse
  /-- an edge of INIT_SEQ or FLUSH_SEQ -/
  | sequence (hq : readStream s.inbox = .waiting) (hn : s.edge.rstN = true) (hp : s.phase = .initSeq ∨ s.phase = .flushSeq)
      (st : SeqStep) (hc : s.currentStep = some st) (t : State) (h : EdgeDoes s.edge s.edgeTaken st t) : StepDoes s t

theorem currentStep_edgeTaken (s : State) : s.edgeTaken.currentStep = s.currentStep := rfl

theorem sequenceEdge_next {e : Edge} {s t : State} (h : s.sequenceEdge e = .next t) :
    ∃ st, s.currentStep = some st ∧ EdgeDoes e s st t := by
  unfold State.sequenceEdge at h
  split at h
  · rename_i st hc; exact ⟨st, hc, Host.Outcome.next.inj h ▸ stepEdge_does e s st⟩
  · cases h

/-- What a step can do. -/
theorem step_does {s t : State} (h : step s = .next t) : StepDoes s t := by
  unfold step State.nextAction at h
  cases hr : readStream s.inbox with
  | waiting =>
    simp only [hr, State.blockAction] at h
    cases hn : s.edge.rstN with
    | false => simp [hn] at h; exact h ▸ .reset hr hn
    | true =>
      simp only [hn, if_true] at h
      cases hp : s.phase with
      | idle =>
        cases hv : s.edge.cmdValid with
        | true => simp [hp, hv] at h; exact .accept hr hn hp hv t h
        | false => simp [hp, hv] at h; exact h ▸ .still hr hn hp hv
      | clearing => simp [hp] at h; exact h ▸ .clears hr hn hp
      | filling => simp [hp] at h; exact h ▸ .fills hr hn hp
      | respond =>
        cases hv : s.edge.rspReady with
        | true => simp [hp, hv] at h; exact h ▸ .taken hr hn hp hv
        | false => simp [hp, hv] at h; exact h ▸ .responds hr hn hp hv
      | initSeq =>
        simp only [hp] at h
        obtain ⟨st, hc, hd⟩ := sequenceEdge_next h
        exact .sequence hr hn (.inl hp) st hc t hd
      | flushSeq =>
        simp only [hp] at h
        obtain ⟨st, hc, hd⟩ := sequenceEdge_next h
        exact .sequence hr hn (.inr hp) st hc t hd
  | command i rest => simp only [hr] at h; exact .command i rest hr t h
  | data bytes rest => simp only [hr] at h; exact Host.Outcome.next.inj h ▸ .data bytes rest hr
  | cutShort rest => simp only [hr] at h; exact Host.Outcome.next.inj h ▸ .cutShort rest hr
  | notACommand b => simp only [hr] at h; cases h

end Sys2Proof.Machine
end

