-- ==== Sys2Proof/Tests/Slice0.lean ====
section
/-! SUPPORT. Tests: the WellFormed smoke tests, decoding of words written out from spec/30_encoding.md, one-step tests whose results
come from spec/95_test_vectors.md and the rules named, and a witness for each obligation that has hypotheses. -/

namespace Sys2Proof.Tests

open Sys2Proof Sys2Proof.Machine

/-! Helpers. -/

/-- The next state of an outcome, if it is one. -/
def nextOf : Host.Outcome State Fault Refusal → Option State
  | .next t => some t
  | .fault _ => none
  | .refused _ => none

/-- One field of the state after a step. -/
def afterStep {α : Type} (f : State → α) (s : State) : Option α := (nextOf (step s)).map f

/-- One field of the state after an instruction. -/
def afterExec {α : Type} (f : State → α) (i : Instr) (s : State) : Option α := (nextOf (exec i s)).map f

/-- The block in IDLE after the reset fill. -/
def idle : State := { State.reset with phase := .idle }

/-- INIT at step `k`, with the DC line at `dc` and the coming edges `es`. -/
def atInit (k : BitVec 6) (dc : Bool) (es : List Edge) : State :=
  { State.reset with phase := .initSeq, stepPtr := k, dcLvl := dc, cur := ⟨0b10#2, 0#32, 0#32, 0#4⟩, coming := es }

/-- FLUSH at step `k`, with the DC line at `dc` and the coming edges `es`. -/
def atFlush (k : BitVec 6) (dc : Bool) (es : List Edge) : State :=
  { State.reset with phase := .flushSeq, stepPtr := k, dcLvl := dc, cur := ⟨0b11#2, 0#32, 0#32, 0#4⟩, coming := es }

/-- FLUSH step 1 with `pos` of its two bytes accepted. -/
def inWrite (pos : BitVec 14) (gap : Bool) (es : List Edge) : State :=
  { atFlush 1#6 true es with wr := ⟨true, true, 2#14, pos, gap⟩ }

/-- INIT step 2 with its delay outstanding. -/
def inDelay (es : List Edge) : State := { atInit 2#6 false es with rstLvl := false, dly := ⟨true, 10#16⟩ }

/-- CLEAR 7 with `k` entries done. -/
def inClear (k : BitVec 14) (es : List Edge) : State :=
  { State.reset with phase := .clearing, clrIdx := k, cur := ⟨0b01#2, 0#32, 0#32, 7#4⟩, coming := es }

/-- A response waits. -/
def inRespond (es : List Edge) : State :=
  { State.reset with phase := .respond, cur := ⟨0b11#2, 0#32, 0#32, 0#4⟩, rsp := ⟨0b11#2, true⟩, coming := es }

/-- An edge with `rst_n` = 0. -/
def resetEdge : Edge := { stillEdge with rstN := false }

/-! WellFormed: each check refuses an ill-formed term. -/

theorem test_wf_refuses_empty_dat : (SeqStep.dat []).wellFormed = false := by decide
theorem test_wf_refuses_dat_of_three : (SeqStep.dat [1#8, 2#8, 3#8]).wellFormed = false := by decide
theorem test_wf_refuses_dc_low : (SeqStep.dc false).wellFormed = false := by decide
theorem test_wf_refuses_unknown_command : (SeqStep.cmd 0x00#8).wellFormed = false := by decide
theorem test_wf_refuses_never_emitted : (SeqStep.cmd 0xA4#8).wellFormed = false := by decide
theorem test_wf_refuses_empty_write : wellFormedWrite true [] = false := by decide
theorem test_wf_refuses_long_command_write : wellFormedWrite false [0x15#8, 0x1C#8] = false := by decide
theorem test_wf_refuses_unknown_command_write : wellFormedWrite false [0xA5#8] = false := by decide
theorem test_wf_accepts_both_sequences :
    ((initSequence Config.default).all SeqStep.wellFormed && (flushSequence Config.default).all SeqStep.wellFormed) = true := by decide

/-! Decoding: words written out from R80, R81 and R89. -/

/-- R80: OP 00, RSV 00, GRAY 1010, Y = 2, X = 5. -/
theorem test_decode_setpx : decodeHost
    0b00_00_1010_00000000000000000000000000000010_00000000000000000000000000000101#72 = .setpx 5#32 2#32 10#4 := by decide
/-- R80, R84: X all ones is -1. -/
theorem test_decode_setpx_negative : decodeHost
    0b00_00_0011_00000000000000000000000000000000_11111111111111111111111111111111#72 = .setpx (-1#32) 0#32 3#4 := by decide
/-- R80: OP 01, GRAY 0111. -/
theorem test_decode_clear : decodeHost
    0b01_00_0111_00000000000000000000000000000000_00000000000000000000000000000000#72 = .clear 7#4 := by decide
/-- R80, R83: OP 10, RSV 11. -/
theorem test_decode_init : decodeHost
    0b10_11_0000_00000000000000000000000000000000_00000000000000000000000000000000#72 = .init := by decide
/-- R80: OP 11. -/
theorem test_decode_flush : decodeHost
    0b11_00_0000_00000000000000000000000000000000_00000000000000000000000000000000#72 = .flush := by decide

/-- R88, R89: a command byte under DC = 0 and its argument bytes under DC = 1. -/
def stream (c : Byte) (args : List Byte) : Encoded := .stream (⟨false, c⟩ :: args.map fun a => ⟨true, a⟩)

theorem test_decode_columnAddress : decode (stream 0b00010101#8 [0x1C#8, 0x5B#8]) = some (.columnAddress 0x1C#8 0x5B#8) := by decide
theorem test_decode_writeRam : decode (stream 0b01011100#8 []) = some .writeRam := by decide
theorem test_decode_rowAddress : decode (stream 0b01110101#8 [0x00#8, 0x3F#8]) = some (.rowAddress 0x00#8 0x3F#8) := by decide
theorem test_decode_muxRatio : decode (stream 0b11001010#8 [0x3F#8]) = some (.muxRatio 0x3F#8) := by decide
theorem test_decode_remap : decode (stream 0b10100000#8 [0x16#8, 0x11#8]) = some (.remap 0x16#8 0x11#8) := by decide
theorem test_decode_startLine : decode (stream 0b10100001#8 [0x02#8]) = some (.startLine 0x02#8) := by decide
theorem test_decode_offsetLine : decode (stream 0b10100010#8 [0x03#8]) = some (.offsetLine 0x03#8) := by decide
theorem test_decode_allPixelsOff : decode (stream 0b10100100#8 []) = some .allPixelsOff := by decide
theorem test_decode_allPixelsOn : decode (stream 0b10100101#8 []) = some .allPixelsOn := by decide
theorem test_decode_normalMode : decode (stream 0b10100110#8 []) = some .normalMode := by decide
theorem test_decode_invertMode : decode (stream 0b10100111#8 []) = some .invertMode := by decide
theorem test_decode_displayOff : decode (stream 0b10101110#8 []) = some .displayOff := by decide
theorem test_decode_displayOn : decode (stream 0b10101111#8 []) = some .displayOn := by decide
theorem test_decode_clockDivider : decode (stream 0b10110011#8 [0x91#8]) = some (.clockDivider 0x91#8) := by decide
theorem test_decode_enhancementA : decode (stream 0b10110100#8 [0xA0#8, 0xFD#8]) = some (.enhancementA 0xA0#8 0xFD#8) := by decide
theorem test_decode_enhancementB : decode (stream 0b11010001#8 [0x82#8, 0x20#8]) = some (.enhancementB 0x82#8 0x20#8) := by decide

/-- R89: a byte under DC = 0 that is none of the sixteen is refused by name. -/
theorem test_decode_names_unknown_byte : readStream [⟨false, 0xAB#8⟩] = .notACommand 0xAB#8 := by decide
/-- R88: a command waits for its arguments. -/
theorem test_decode_waits_for_arguments : readStream [⟨false, 0x15#8⟩, ⟨true, 0x1C#8⟩] = .waiting := by decide
/-- R89: no two rows of the command table have one byte. -/
theorem test_command_bytes_differ : (CtrlCmd.all.map CtrlCmd.byte).Nodup := by decide

/-- spec/opcode_table.json: each row's word and the instruction it stands for, operands 0. -/
def tableRows : List (Nat × Nat × Instr) :=
  [(72, 0x000000000000000000, .setpx 0#32 0#32 0#4), (72, 0x400000000000000000, .clear 0#4),
   (72, 0x800000000000000000, .init), (72, 0xC00000000000000000, .flush)] ++
  [(8, 0x15, .columnAddress 0#8 0#8), (8, 0x5C, .writeRam), (8, 0x75, .rowAddress 0#8 0#8), (8, 0xCA, .muxRatio 0#8),
   (8, 0xA0, .remap 0#8 0#8), (8, 0xA1, .startLine 0#8), (8, 0xA2, .offsetLine 0#8), (8, 0xA4, .allPixelsOff)] ++
  [(8, 0xA5, .allPixelsOn), (8, 0xA6, .normalMode), (8, 0xA7, .invertMode), (8, 0xAE, .displayOff), (8, 0xAF, .displayOn),
   (8, 0xB3, .clockDivider 0#8), (8, 0xB4, .enhancementA 0#8 0#8), (8, 0xD1, .enhancementB 0#8 0#8)]

/-- The instruction the next step runs, if any. -/
def nextInstr (s : State) : Option Instr :=
  match s.nextAction with
  | .run i _ => some i
  | .settle _ => none

theorem test_table_rows_decode : (tableRows.all fun r => decodeTableWord r.1 r.2.1 == some r.2.2) = true := by decide
theorem test_table_rows_are_fetched :
    (tableRows.all fun r => nextInstr (State.reset.withFetchWord r.1 r.2.1) == some r.2.2) = true := by decide
theorem test_table_rows_run :
    (tableRows.all fun r => (nextOf (step (State.reset.withFetchWord r.1 r.2.1))).isSome) = true := by decide

/-! SETPX and CLEAR (spec/95_test_vectors.md 2.2, 2.3). -/

/-- V-SP1: with FRONT = 0, SETPX 5, 2, 10 makes BUF[1][261] = 0xAA. -/
theorem test_setpx_writes_back : afterExec (fun t => (t.entry 1#1 261#13, t.entry 0#1 261#13)) (.setpx 5#32 2#32 10#4) idle =
    some (0xAA#8, 0x00#8) := by decide
/-- V-SP11: x = -128 is out of range although its low bits are 0. -/
theorem test_setpx_drops_out_of_range : afterExec (fun t => (t.mem, t.rsp)) (.setpx 0xFFFFFF80#32 0#32 5#4) idle =
    some ([], ⟨0b00#2, false⟩) := by decide
/-- V-CL3: with FRONT = 1, CLEAR 7 fills BUF[0]; the last entry answers. -/
theorem test_clear_ends_with_last_entry :
    afterStep (fun t => (t.entry 0#1 8191#13, t.entry 1#1 8191#13, t.phase, t.rsp)) { inClear 8191#14 [goEdge] with front := 1#1 } =
    some (0x77#8, 0x00#8, .respond, ⟨0b01#2, false⟩) := by decide
/-- V-HS1: a command offered during CLEAR is not taken. -/
theorem test_clear_ignores_offer : afterStep (fun t => (t.phase, t.trace)) (inClear 5#14 [offerEdge 0xC00000000000000000#72]) =
    some (.clearing, []) := by decide

/-! INIT and FLUSH (spec/95_test_vectors.md 2.4, 2.5). -/

/-- R133, R197: 27 writes and 8225 bytes in INIT; 6 writes and 8199 bytes in FLUSH (R148). -/
theorem test_write_counts :
    ((initSequence Config.default).filter (fun st => decide (0 < st.writeLen))).length = 27 ∧
    ((initSequence Config.default).map SeqStep.writeLen).sum = 8225 ∧
    ((flushSequence Config.default).filter (fun st => decide (0 < st.writeLen))).length = 6 ∧
    ((flushSequence Config.default).map SeqStep.writeLen).sum = 8199 := by decide
/-- R133, V-INIT-F7, V-FLUSH-F7: the traces of failed commands, as spec/95_test_vectors.md 2.4 and 2.5 list them. -/
theorem test_failed_init_trace : failedTrace [] (.cmd 0xCA#8) true false ((initSequence Config.default).take 7) =
    [.rst false, .dly 10#16, .rst true, .dly 300#16, .wr false [0xB3#8] true, .dc true, .wr true [0x91#8] true, .dc false,
     .wr false [0xCA#8] false] := by decide
theorem test_failed_flush_trace : failedTrace [0x77#8] .payload true false ((flushSequence Config.default).take 7) =
    windowTrace Config.default ++ [.wr true [0x77#8] false] := by decide
/-- V-INIT-OK: INIT ends with INIT_DONE = 1 and Rsp(0b10, 0). -/
theorem test_init_done : afterStep (fun t => (t.initDone, t.rsp, t.phase)) (atInit 35#6 false [goEdge]) =
    some (true, ⟨0b10#2, false⟩, .respond) := by decide
/-- R130: an INIT that is accepted clears INIT_DONE. -/
theorem test_init_clears_done : afterExec (fun t => (t.initDone, t.phase, t.stepPtr)) .init { idle with initDone := true } =
    some (false, .initSeq, 0#6) := by decide
/-- V-FLUSH-OK: the swap toggles FRONT and is an event. -/
theorem test_flush_swaps : afterStep (fun t => (t.front, t.stepPtr, t.trace)) (atFlush 6#6 true [goEdge]) =
    some (1#1, 7#6, [.swap]) := by decide
/-- V-FLUSH-EARLY: a FLUSH before INIT runs and ends with Rsp(0b11, 0), INIT_DONE 0. -/
theorem test_flush_done_without_init : afterStep (fun t => (t.initDone, t.rsp, t.phase)) (atFlush 8#6 true [goEdge]) =
    some (false, ⟨0b11#2, false⟩, .respond) := by decide
/-- V-FLUSH-DC: from DC_LVL = 1 a FLUSH's first step makes the event `DC 0`. -/
theorem test_flush_first_step_lowers_dc : afterStep (fun t => (t.dcLvl, t.trace, t.wr.active)) (atFlush 0#6 true [goEdge]) =
    some (false, [.dc false], true) := by decide
/-- V-INIT-F7: an error of `C 0xCA` answers (0b10, 1) and leaves STEP at 7. -/
theorem test_init_error : afterStep (fun t => (t.rsp, t.stepPtr, t.initDone, t.trace))
    { atInit 7#6 false [errEdge 0] with wr := ⟨true, false, 1#14, 1#14, false⟩ } =
    some (⟨0b10#2, true⟩, 7#6, false, [.wr false [0xCA#8] false]) := by decide

/-! The serializer, the delay port, reset, the ports (spec/95_test_vectors.md 2.6 to 2.9). -/

/-- V-SER2: the port offers 0x1C, not the last byte, under DC = 1. -/
theorem test_port_offers_first_byte : (fun p : Ports => (p.txValid, p.txData, p.txLast, p.dcO)) ((inWrite 0#14 false []).ports true) =
    (true, 0x1C#8, false, true) := by decide
/-- V-SER2: the port offers 0x5B, the last byte. -/
theorem test_port_offers_last_byte : (fun p : Ports => (p.txValid, p.txData, p.txLast)) ((inWrite 1#14 false []).ports true) =
    (true, 0x5B#8, true) := by decide
/-- V-SER3: an early error ends the write; the controller may have 0x1C. -/
theorem test_early_error : afterStep (fun t => (t.wr.active, t.rsp, t.inbox)) (inWrite 1#14 false [errEdge 1]) =
    some (false, ⟨0b11#2, true⟩, [⟨true, 0x1C#8⟩]) := by decide
/-- V-SER5: a success response before the last byte is ignored. -/
theorem test_premature_success : afterStep (fun t => t.wr) (inWrite 0#14 false [okEdge]) =
    some ⟨true, true, 2#14, 0#14, false⟩ := by decide
/-- V-DLY1: `dly_req` falls at `dly_done` and step 3 follows. -/
theorem test_delay_ends : afterStep (fun t => (t.dly.active, t.stepPtr, t.trace)) (inDelay [doneEdge]) =
    some (false, 3#6, [.dly 10#16]) := by decide
/-- V-DLY2: `dly_done` without a request has no effect. -/
theorem test_stray_delay_done : afterStep (fun t => (t.stepPtr, t.trace, t.wr.pos)) (inWrite 0#14 false [doneEdge]) =
    some (1#6, [], 0#14) := by decide
/-- V-RST2: a reset during INIT step 2 withdraws the delay and releases the reset line; no response. -/
theorem test_reset_in_delay : afterStep (fun t => (t.dly.active, t.rstLvl, t.initDone, t.phase, t.trace)) (inDelay [resetEdge]) =
    some (false, true, false, .filling, [.rst true]) := by decide
/-- V-RST1: the fill's last entry makes the block IDLE. -/
theorem test_fill_ends : afterStep (fun t => (t.phase, t.ports true)) { State.reset with clrIdx := 16383#14, coming := [goEdge] } =
    some (.idle, ⟨true, false, 0b00#2, false, false, false, 0#1, false, 0x00#8, false, false, true, false, 0#16⟩) := by decide
/-- V-HS2: a response that is not taken stays, and no command is accepted. -/
theorem test_response_waits : afterStep (fun t => (t.phase, (t.ports true).cmdReady)) (inRespond [offerEdge 0#72]) =
    some (.respond, false) := by decide

/-! The controller's registers (R181 to R196). -/

theorem test_columnAddress : afterExec (fun t => (t.ctrl.colStart, t.ctrl.colEnd)) (.columnAddress 0x1C#8 0x5B#8) idle =
    some (0x1C#8, 0x5B#8) := by decide
theorem test_rowAddress : afterExec (fun t => (t.ctrl.rowStart, t.ctrl.rowEnd)) (.rowAddress 0x00#8 0x3F#8) idle =
    some (0x00#8, 0x3F#8) := by decide
/-- R63, R182: data bytes after Write RAM go to the RAM. -/
theorem test_writeRam_takes_data :
    (afterExec (fun t => afterStep (fun u => u.ctrl.ram) { t with inbox := [⟨true, 0x77#8⟩, ⟨true, 0x88#8⟩] }) .writeRam idle) =
    some (some [0x77#8, 0x88#8]) := by decide
/-- R144: Write RAM alone, and stray data, keep the frame; the first data byte after it begins a new one. -/
theorem test_frame_kept_until_data : (afterExec (fun t => (t.ctrl.ram, afterStep (fun u => u.ctrl.ram) { t with inbox := [⟨true, 0x33#8⟩] }))
    .writeRam { idle with ctrl := { ctrlAtPowerOn with ram := [0x77#8, 0x77#8] } }) =
    some ([0x77#8, 0x77#8], some [0x33#8]) := by decide
/-- R144: a command cut short by a later failing FLUSH keeps the frame. -/
theorem test_frame_kept_at_cut_command :
    afterStep (fun t => (t.ctrl.ram, t.inbox)) { idle with
      ctrl := { ctrlAtPowerOn with ram := [0x77#8] }, inbox := [⟨false, 0x15#8⟩, ⟨false, 0x15#8⟩] } =
    some ([0x77#8], [⟨false, 0x15#8⟩]) := by decide
theorem test_remap : afterExec (fun t => (t.ctrl.remapA, t.ctrl.remapB)) (.remap 0x16#8 0x11#8) idle =
    some (0x16#8, 0x11#8) := by decide
theorem test_enhancementB : afterExec (fun t => (t.ctrl.enhB1, t.ctrl.enhB2)) (.enhancementB 0x82#8 0x20#8) idle =
    some (0x82#8, 0x20#8) := by decide
theorem test_displayOn : afterExec (fun t => t.ctrl.displayOn) .displayOn idle = some true := by decide
/-- The command acts when its last byte has come. -/
theorem test_command_acts_from_inbox :
    afterStep (fun t => (t.ctrl.mux, t.inbox)) { idle with inbox := [⟨false, 0xCA#8⟩, ⟨true, 0x3F#8⟩] } =
    some (0x3F#8, []) := by decide

/-! Witnesses: for each obligation with hypotheses, states and operands that meet them all; one for each clause. -/

/-- A word and another that differs only in the fields CLEAR does not read. -/
theorem witness_UnreadFieldsAffectNothing :
    State.quiet idle ∧ decodeHost 0x470000000000000000#72 = decodeHost 0x77123456789ABCDEF0#72 ∧
    ∃ t, step (idle.setComing [{ offerEdge 0#72 with cmdWord := 0x470000000000000000#72 }]) = .next t :=
  ⟨rfl, by decide, _, rfl⟩

theorem witness_HostWordsAgreeOnReadFields_setpx : wordOp 0x0A0000000200000005#72 = 0b00#2 := by decide
theorem witness_HostWordsAgreeOnReadFields_clear : wordOp 0x47123456789ABCDEF0#72 = 0b01#2 := by decide

theorem witness_DecodeEncode : (Instr.columnAddress 0x1C#8 0x5B#8).wellFormed = true := by decide

/-- The two corners of the picture. -/
theorem witness_EntryIndexIsRowMajor : inRange 127#32 63#32 = true ∧ inRange 0#32 0#32 = true := by decide

theorem witness_SetpxWritesOneBackEntry : idle.phase = .idle ∧ idle.MemoryOk := by decide
theorem witness_SetpxWritesOneBackEntry_in : inRange 127#32 63#32 = true := by decide
theorem witness_SetpxWritesOneBackEntry_out : inRange 128#32 0#32 = false ∧ inRange 0#32 64#32 = false ∧
    inRange (-1#32) 0#32 = false ∧ inRange 0#32 (-1#32) = false := by decide
theorem witness_SetPixelIsIdempotent : State.MemoryOk { idle with mem := [(8453, 0xAA#8)] } := by decide
theorem witness_starts : idle.phase = .idle := rfl
theorem witness_HostCommandWaitsUnlessIdle : State.reset.phase ≠ .idle := by decide

theorem witness_ClearEdgeFillsTheNextEntries_more : (inClear 8190#14 [goEdge]).quiet ∧ goEdge.rstN = true ∧
    (inClear 8190#14 [goEdge]).MemoryOk ∧ (8190#14).toNat + (inClear 8190#14 [goEdge]).pace goEdge < 8192 := by decide
theorem witness_ClearEdgeFillsTheNextEntries_last : (inClear 8191#14 [goEdge]).quiet ∧ goEdge.rstN = true ∧
    (inClear 8191#14 [goEdge]).MemoryOk ∧ 8192 ≤ (8191#14).toNat + (inClear 8191#14 [goEdge]).pace goEdge := by decide

theorem witness_ClearRunsToItsAnswer :
    ∃ s : State, s.phase = .idle ∧ s.inbox = [] ∧ s.MemoryOk ∧ wordOp 0x470000000000000000#72 = 0b01#2 ∧
      s.coming = offerEdge 0x470000000000000000#72 :: (List.replicate 8192 goEdge ++ [takeEdge]) :=
  ⟨idle.setComing _, rfl, rfl, rfl, by decide, rfl⟩

/-- What the statements about one edge of a sequence ask of a state and its coming edge. -/
def stepsNext (s : State) (e : Edge) (st : SeqStep) : Prop :=
  s.quiet ∧ s.coming = [e] ∧ e.rstN = true ∧ e.work ≠ 0 ∧ (s.phase = .initSeq ∨ s.phase = .flushSeq) ∧ s.wr.active = false ∧
    s.dly.active = false ∧ s.currentStep = some st

theorem witness_LineStepsCompleteAtOnce_rst_same : stepsNext (atInit 0#6 false [goEdge]) goEdge (.rst true) := by
  unfold stepsNext; decide
theorem witness_LineStepsCompleteAtOnce_rst_falls : stepsNext (atInit 1#6 false [goEdge]) goEdge (.rst false) := by
  unfold stepsNext; decide
theorem witness_LineStepsCompleteAtOnce_dc : stepsNext (atFlush 5#6 false [goEdge]) goEdge (.dc true) := by
  unfold stepsNext; decide
theorem witness_WriteStepsStartTheirWrite_cmd : stepsNext (atInit 5#6 false [goEdge]) goEdge (.cmd 0xB3#8) ∧
    (atInit 5#6 false [goEdge]).pace goEdge ≠ 0 := by
  unfold stepsNext; decide
theorem witness_WriteStepsStartTheirWrite_dat : stepsNext (atFlush 1#6 false [goEdge]) goEdge (.dat [0x1C#8, 0x5B#8]) ∧
    (atFlush 1#6 false [goEdge]).pace goEdge ≠ 0 := by
  unfold stepsNext; decide
theorem witness_WriteStepsStartTheirWrite_payload : stepsNext (atInit 32#6 true [goEdge]) goEdge .payload ∧
    (atInit 32#6 true [goEdge]).pace goEdge ≠ 0 := by
  unfold stepsNext; decide
/-- Whatever the unknown bound, a block that has stalled past it starts its step at an edge with no work. -/
theorem witness_WriteStepsStartTheirWrite_forced : stillEdge.work = 0 ∧
    ((atInit 5#6 false [stillEdge]).setStalled (Config.maxStall + 1)).quiet ∧ stillEdge.rstN = true ∧
    ((atInit 5#6 false [stillEdge]).setStalled (Config.maxStall + 1)).currentStep = some (.cmd 0xB3#8) ∧
    ((atInit 5#6 false [stillEdge]).setStalled (Config.maxStall + 1)).pace stillEdge ≠ 0 :=
  ⟨rfl, by decide, rfl, by decide, fun h => Nat.lt_irrefl _ (State.pace_eq_zero.1 h).2⟩
theorem witness_SwapAndDoneCompleteAtOnce_swap : stepsNext (atFlush 6#6 true [goEdge]) goEdge .swap := by
  unfold stepsNext; decide
theorem witness_SwapAndDoneCompleteAtOnce_init : stepsNext (atInit 35#6 false [goEdge]) goEdge .done := by
  unfold stepsNext; decide
theorem witness_SwapAndDoneCompleteAtOnce_flush : stepsNext (atFlush 8#6 true [goEdge]) goEdge .done := by
  unfold stepsNext; decide
theorem witness_DelayIsRequestedHeldAndEnded_request : stepsNext (atInit 34#6 false [goEdge]) goEdge (.dly 200#16) := by
  unfold stepsNext; decide
/-- Whatever the unknown bound, a block that has not stalled may stall once. -/
theorem witness_DelayIsRequestedHeldAndEnded_stalls : (atInit 34#6 false [stillEdge]).pace stillEdge = 0 := by
  have h : ¬ (stillEdge.work = 0 ∧ Config.maxStall < (atInit 34#6 false [stillEdge]).stalled) := fun h => Nat.not_lt_zero _ h.2
  rw [State.pace, if_neg h]; rfl
theorem witness_DelayIsRequestedHeldAndEnded_held : (inDelay [goEdge]).quiet ∧ (inDelay [goEdge]).currentStep = some (.dly 10#16) ∧
    (inDelay [goEdge]).wr.active = false ∧ (inDelay [goEdge]).dly.active = true ∧ goEdge.rstN = true ∧ goEdge.dlyDone = false := by
  decide
theorem witness_DelayIsRequestedHeldAndEnded_ended : (inDelay [doneEdge]).quiet ∧
    (inDelay [doneEdge]).currentStep = some (.dly 10#16) ∧ (inDelay [doneEdge]).wr.active = false ∧
    (inDelay [doneEdge]).dly.active = true ∧ doneEdge.rstN = true ∧ doneEdge.dlyDone = true := by
  decide

/-- What the statements about one edge of a write ask of a state and its coming edge. -/
def writesNext (s : State) (e : Edge) (st : SeqStep) : Prop :=
  s.quiet ∧ s.coming = [e] ∧ e.rstN = true ∧ (s.phase = .initSeq ∨ s.phase = .flushSeq) ∧ s.currentStep = some st ∧
    s.wr.active = true

theorem witness_OfferedByteIsHeldUntilTaken_held : writesNext (inWrite 0#14 false [goEdge]) goEdge (.dat [0x1C#8, 0x5B#8]) ∧
    (inWrite 0#14 false [goEdge]).wr.unsent = true ∧ goEdge.txRespValid = false ∧ goEdge.txReady = false := by
  unfold writesNext; decide
theorem witness_OfferedByteIsHeldUntilTaken_taken : writesNext (inWrite 1#14 false [readyEdge]) readyEdge (.dat [0x1C#8, 0x5B#8]) ∧
    (inWrite 1#14 false [readyEdge]).wr.unsent = true ∧ readyEdge.txRespValid = false ∧ readyEdge.txReady = true := by
  unfold writesNext; decide
theorem witness_OfferedByteIsHeldUntilTaken_gap : writesNext (inWrite 1#14 true [okEdge]) okEdge (.dat [0x1C#8, 0x5B#8]) ∧
    (inWrite 1#14 true [okEdge]).wr.unsent = true ∧ okEdge.txRespErr = false ∧ (inWrite 1#14 true [okEdge]).wr.gap = true := by
  unfold writesNext; decide
theorem witness_SuccessfulWriteCompletesItsStep_waits : writesNext (inWrite 2#14 false [goEdge]) goEdge (.dat [0x1C#8, 0x5B#8]) ∧
    (inWrite 2#14 false [goEdge]).wr.unsent = false ∧ goEdge.txRespValid = false := by
  unfold writesNext; decide
theorem witness_SuccessfulWriteCompletesItsStep_ok : writesNext (inWrite 2#14 false [okEdge]) okEdge (.dat [0x1C#8, 0x5B#8]) ∧
    (inWrite 2#14 false [okEdge]).wr.unsent = false ∧ okEdge.txRespValid = true ∧ okEdge.txRespErr = false := by
  unfold writesNext; decide
theorem witness_FailedWriteRaisesTransportError_early : writesNext (inWrite 1#14 false [errEdge 1]) (errEdge 1)
    (.dat [0x1C#8, 0x5B#8]) ∧ (errEdge 1).txRespValid = true ∧ (errEdge 1).txRespErr = true := by
  unfold writesNext; decide
theorem witness_FailedWriteRaisesTransportError_late : writesNext (inWrite 2#14 false [errEdge 2]) (errEdge 2)
    (.dat [0x1C#8, 0x5B#8]) ∧ (errEdge 2).txRespValid = true ∧ (errEdge 2).txRespErr = true := by
  unfold writesNext; decide
theorem witness_LinesHoldDuringAWrite : ∃ t, (inWrite 0#14 false [readyEdge]).wr.active = true ∧
    (inWrite 0#14 false [readyEdge]).edge.rstN = true ∧ step (inWrite 0#14 false [readyEdge]) = .next t :=
  ⟨_, rfl, rfl, rfl⟩

theorem witness_UntimelyAnswersAreIgnored_early : (inWrite 0#14 false []).quiet ∧ (inWrite 0#14 false []).wr.unsent = true := by decide
theorem witness_UntimelyAnswersAreIgnored_none : (atFlush 1#6 true []).quiet ∧ (atFlush 1#6 true []).wr.active = false := by decide
theorem witness_UntimelyAnswersAreIgnored_delay : (atFlush 1#6 true []).quiet ∧ (atFlush 1#6 true []).dly.active = false := by decide

/-- FLUSH step 1 with one byte accepted is consistent. -/
theorem inWrite_consistent (es : List Edge) : (inWrite 1#14 false es).SequencerOk where
  stepExists _ := rfl
  writing _ := ⟨.dat [0x1C#8, 0x5B#8], rfl, Nat.two_pos, rfl, rfl, rfl, (by decide : (1 : Nat) ≤ 2)⟩
  delaying h := by cases h
  initRuns h := by cases h
  flushRuns _ := rfl
  clearRuns h := by cases h
  dataMode _ := rfl
  resetLow h := by cases h
  answers h := by cases h

theorem witness_PortOffersTheWritesByte : (inWrite 1#14 false []).SequencerOk ∧
    ((inWrite 1#14 false []).ports true).txValid = true := ⟨inWrite_consistent [], by decide⟩
theorem witness_EveryWriteHasAForm : ∃ t, (inWrite 1#14 false [errEdge 1]).SequencerOk ∧
    step (inWrite 1#14 false [errEdge 1]) = .next t ∧
    t.trace = (inWrite 1#14 false [errEdge 1]).trace ++ [.wr true [0x1C#8, 0x5B#8] false] :=
  ⟨_, inWrite_consistent _, rfl, rfl⟩
theorem witness_SequencerStaysConsistent : ∃ t, (inWrite 1#14 false [readyEdge]).SequencerOk ∧
    step (inWrite 1#14 false [readyEdge]) = .next t := ⟨_, inWrite_consistent _, rfl⟩

theorem witness_RespondOnlyAnswers_waits : (inRespond [goEdge]).quiet ∧ goEdge.rstN = true ∧ (inRespond [goEdge]).phase = .respond ∧
    goEdge.rspReady = false := by decide
theorem witness_RespondOnlyAnswers_taken : (inRespond [takeEdge]).quiet ∧ takeEdge.rstN = true ∧
    (inRespond [takeEdge]).phase = .respond ∧ takeEdge.rspReady = true := by decide

theorem witness_ResetOverridesEverything : (inWrite 1#14 false [resetEdge]).quiet ∧ resetEdge.rstN = false := by decide
theorem witness_ResetOverridesEverything_noWrite : (inDelay [resetEdge]).quiet ∧ resetEdge.rstN = false ∧
    (inDelay [resetEdge]).wr.active = false := by decide

/-- The reset fill with nothing listed. -/
def lastFill : State := { State.reset with clrIdx := 16383#14, coming := [goEdge] }

theorem lastFill_account : lastFill.FillOk := ⟨fun _ _ _ => rfl, fun h => (nomatch h)⟩

theorem witness_FillEndsWithEveryEntryZero : ∃ t, lastFill.MemoryOk ∧ lastFill.FillOk ∧ lastFill.phase = .filling ∧
    step lastFill = .next t ∧ t.phase = .idle := ⟨_, rfl, lastFill_account, rfl, rfl, by decide⟩
theorem witness_FillsKeepTheirAccount : ∃ t, lastFill.MemoryOk ∧ lastFill.FillOk ∧ step lastFill = .next t :=
  ⟨_, rfl, lastFill_account, rfl⟩
theorem witness_FillsKeepTheirAccount_clear : ∃ t, (inClear 0#14 [goEdge]).MemoryOk ∧ (inClear 0#14 [goEdge]).FillOk ∧
    step (inClear 0#14 [goEdge]) = .next t :=
  ⟨_, rfl, ⟨fun h => (nomatch h), fun _ _ hi => absurd hi (Nat.not_lt_zero _)⟩, rfl⟩
theorem witness_FillRunsToIdle : ∃ s : State, s.phase = .filling ∧ s.clrIdx = 0#14 ∧ s.inbox = [] ∧ s.MemoryOk ∧
    s.coming = List.replicate 16384 goEdge ++ [takeEdge] := ⟨{ State.reset with coming := _ }, rfl, rfl, rfl, rfl, rfl⟩

theorem witness_FrontChangesOnlyBySwap_swap : ∃ t, step (atFlush 6#6 true [goEdge]) = .next t ∧
    t.front ≠ (atFlush 6#6 true [goEdge]).front := ⟨_, rfl, by decide⟩
theorem witness_FrontChangesOnlyBySwap_reset : ∃ t, step { idle with front := 1#1, coming := [resetEdge] } = .next t ∧
    t.front ≠ 1#1 := ⟨_, rfl, by decide⟩
theorem witness_InitDoneChangesOnlyByInit_set : ∃ t, step (atInit 35#6 false [goEdge]) = .next t ∧ t.initDone ≠ false :=
  ⟨_, rfl, by decide⟩
theorem witness_InitDoneChangesOnlyByInit_cleared :
    ∃ t, step { idle with initDone := true, coming := [offerEdge 0x800000000000000000#72] } = .next t ∧ t.initDone ≠ true :=
  ⟨_, rfl, by decide⟩
theorem witness_InitDoneChangesOnlyByInit_reset :
    ∃ t, step { idle with initDone := true, coming := [resetEdge] } = .next t ∧ t.initDone ≠ true := ⟨_, rfl, by decide⟩
theorem witness_LinesChangeOnlyAtTheirSteps_rst : ∃ t, step (atInit 1#6 false [goEdge]) = .next t ∧
    (atInit 1#6 false [goEdge]).edge.rstN = true ∧ t.rstLvl ≠ (atInit 1#6 false [goEdge]).rstLvl := ⟨_, rfl, rfl, by decide⟩
theorem witness_LinesChangeOnlyAtTheirSteps_dc : ∃ t, step (atFlush 5#6 false [goEdge]) = .next t ∧
    (atFlush 5#6 false [goEdge]).edge.rstN = true ∧ t.dcLvl ≠ (atFlush 5#6 false [goEdge]).dcLvl := ⟨_, rfl, rfl, by decide⟩
theorem witness_StepPointerMovesByOne : ∃ t, step (atFlush 6#6 true [goEdge]) = .next t := ⟨_, rfl⟩
theorem witness_CommandsAreTakenOnlyWhenIdle : ∃ t, step { idle with coming := [offerEdge 0x470000000000000000#72] } = .next t ∧
    t.trace = [] ++ [.cmd 0x470000000000000000#72] := ⟨_, rfl, rfl⟩
theorem witness_FrontBufferIsNeverWritten : ∃ t, idle.MemoryOk ∧ idle.phase ≠ .filling ∧
    step { idle with coming := [offerEdge 0x0A0000000200000005#72] } = .next t := ⟨_, rfl, by decide, rfl⟩
theorem witness_BlockNeverReadsTheController : ∃ t, (inWrite 1#14 false [readyEdge]).quiet ∧
    step (inWrite 1#14 false [readyEdge]) = .next t := ⟨_, rfl, rfl⟩

theorem idle_nibbles (es : List Edge) : State.NibblesEqual { idle with coming := es } := fun _ =>
  (by decide : (0x00#8).extractLsb' 4 4 = (0x00#8).extractLsb' 0 4)

/-- At an edge with no command offered. -/
theorem witness_StepRunsTheHostCommand_none : (idle.setComing [stillEdge]).quiet ∧ stillEdge.rstN = true ∧
    (idle.setComing [stillEdge]).phase = .idle ∧ stillEdge.cmdValid = false := by decide

theorem witness_MemoryStaysCanonical : ∃ t, idle.MemoryOk ∧
    step { idle with coming := [offerEdge 0x0A0000000200000005#72] } = .next t := ⟨_, rfl, rfl⟩
theorem witness_NibblesStayEqual : ∃ t, State.NibblesEqual { idle with coming := [offerEdge 0x0A0000000200000005#72] } ∧
    step { idle with coming := [offerEdge 0x0A0000000200000005#72] } = .next t := ⟨_, idle_nibbles _, rfl⟩

/-- The middle of a FLUSH is a legal state, whatever comes. -/
theorem inWrite_legal (es : List Edge) : (inWrite 1#14 false es).Legal where
  memory := rfl
  nibbles := fun _ => (by decide : (0x00#8).extractLsb' 4 4 = (0x00#8).extractLsb' 0 4)
  sequencer := inWrite_consistent _
  fill := ⟨fun h => (nomatch h), fun h => (nomatch h)⟩
  inbox := fun _ h => by cases h

theorem witness_LegalStatesNeverStop_works : (inWrite 1#14 false [readyEdge]).Legal ∧ (inWrite 1#14 false [readyEdge]).quiet ∧
    (inWrite 1#14 false [readyEdge]).edge.rstN = true ∧ (inWrite 1#14 false [readyEdge]).working ∧
    (inWrite 1#14 false [readyEdge]).waitsForWorld readyEdge = false := ⟨inWrite_legal _, by decide⟩
theorem witness_LegalStatesNeverStop_waits : (inWrite 1#14 false [goEdge]).Legal ∧ (inWrite 1#14 false [goEdge]).quiet ∧
    (inWrite 1#14 false [goEdge]).edge.rstN = true ∧ (inWrite 1#14 false [goEdge]).working ∧
    (inWrite 1#14 false [goEdge]).waitsForWorld goEdge = true := ⟨inWrite_legal _, by decide⟩

/-- FLUSH step 1 with the controller about to run a display mode command. -/
theorem witness_LegalStatesNeverStop_controller : ((inWrite 1#14 false []).setInbox [⟨false, 0xA6#8⟩]).Legal ∧
    ¬ ((inWrite 1#14 false []).setInbox [⟨false, 0xA6#8⟩]).quiet := by
  refine ⟨⟨rfl, (inWrite_legal []).nibbles, ?_, ⟨fun h => (nomatch h), fun h => (nomatch h)⟩, ?_⟩, by decide⟩
  · obtain ⟨a, b, c, d, e, f, g, h, i⟩ := inWrite_consistent []
    exact ⟨a, b, c, d, e, f, g, h, i⟩
  · intro b hb _
    rw [List.mem_singleton.1 hb]; decide

theorem witness_FlushRunsToItsAnswer :
    ∃ s : State, s.phase = .idle ∧ s.inbox = [] ∧ s.wr.active = false ∧ s.dly.active = false ∧
      wordOp 0xC00000000000000000#72 = 0b11#2 ∧
      s.coming = offerEdge 0xC00000000000000000#72 :: (sequenceEdges (flushSequence s.cfg) ++ [takeEdge]) :=
  ⟨idle.setComing (_ :: (sequenceEdges (flushSequence idle.cfg) ++ [takeEdge])), rfl, rfl, rfl, rfl, by decide, rfl⟩
theorem witness_InitRunsToReady (dc : Bool) :
    ∃ s : State, s.phase = .idle ∧ s.quiet ∧ s.wr.active = false ∧ s.dly.active = false ∧ s.rstLvl = true ∧ s.dcLvl = dc ∧
      wordOp 0x800000000000000000#72 = 0b10#2 ∧
      s.coming = offerEdge 0x800000000000000000#72 :: (sequenceEdges (initSequence s.cfg) ++ [takeEdge]) :=
  ⟨(idle.setDcLvl dc).setComing (_ :: (sequenceEdges (initSequence idle.cfg) ++ [takeEdge])), rfl, rfl, rfl, rfl, rfl, rfl, by decide, rfl⟩
/-- A failure of FLUSH's first command, of Write RAM, and of the payload, with no byte accepted; the controller has half of a command
that failed before. -/
theorem witness_FailedFlushTogglesFrontOnlyAtThePayload (k : Nat) (st : SeqStep)
    (h : k = 0 ∧ st = .cmd 0x15#8 ∨ k = 4 ∧ st = .cmd 0x5C#8 ∨ k = 7 ∧ st = .payload) :
    ∃ s : State, s.phase = .idle ∧ s.quiet ∧ s.wr.active = false ∧ s.dly.active = false ∧
      wordOp 0xC00000000000000000#72 = 0b11#2 ∧ (flushSequence s.cfg)[k]? = some st ∧ 0 < st.writeLen ∧ 0 ≤ st.writeLen ∧
      s.coming = offerEdge 0xC00000000000000000#72 ::
        (sequenceEdges ((flushSequence s.cfg).take k) ++ bytesEdges 0 ++ errEdge 0 :: [takeEdge]) := by
  refine ⟨(idle.setInbox [⟨false, 0x15#8⟩]).setComing
      (_ :: (sequenceEdges ((flushSequence idle.cfg).take k) ++ bytesEdges 0 ++ errEdge 0 :: [takeEdge])),
    rfl, rfl, rfl, rfl, by decide, ?_, ?_, Nat.zero_le _, rfl⟩ <;>
    obtain ⟨rfl, rfl⟩ | ⟨rfl, rfl⟩ | ⟨rfl, rfl⟩ := h <;> first | rfl | decide

/-- A failure of INIT's first command, of the payload, and of Display ON, with every byte accepted. -/
theorem witness_FailedFlushTogglesFrontOnlyAtThePayload_init (k : Nat) (st : SeqStep)
    (h : k = 5 ∧ st = .cmd 0xB3#8 ∨ k = 32 ∧ st = .payload ∨ k = 33 ∧ st = .cmd 0xAF#8) :
    ∃ s : State, s.phase = .idle ∧ s.quiet ∧ s.wr.active = false ∧ s.dly.active = false ∧
      wordOp 0x800000000000000000#72 = 0b10#2 ∧ (initSequence s.cfg)[k]? = some st ∧ 0 < st.writeLen ∧
      s.coming = offerEdge 0x800000000000000000#72 ::
        (sequenceEdges ((initSequence s.cfg).take k) ++ bytesEdges st.writeLen ++ errEdge 1 :: [takeEdge]) := by
  refine ⟨idle.setComing
      (_ :: (sequenceEdges ((initSequence idle.cfg).take k) ++ bytesEdges st.writeLen ++ errEdge 1 :: [takeEdge])),
    rfl, rfl, rfl, rfl, by decide, ?_, ?_, rfl⟩ <;>
    obtain ⟨rfl, rfl⟩ | ⟨rfl, rfl⟩ | ⟨rfl, rfl⟩ := h <;> first | rfl | decide

theorem witness_WriteRamOpensTheRam_stray : idle.ctrl.ramOpen = false := rfl
theorem witness_WriteRamOpensTheRam_frame :
    ∃ t, step { idle with ctrl := { ctrlAtPowerOn with ramOpen := true }, inbox := [⟨true, 0x77#8⟩] } = .next t ∧
      t.ctrl.ram ≠ [] := ⟨_, rfl, by decide⟩
theorem witness_WriteRamOpensTheRam : (idle.setCtrl { ctrlAtPowerOn with ramOpen := true }).ctrl.ramOpen = true := rfl
theorem witness_StepRunsTheHostCommand :
    (idle.setComing [offerEdge 0x470000000000000000#72]).quiet ∧ (offerEdge 0x470000000000000000#72).rstN = true ∧
    (offerEdge 0x470000000000000000#72).cmdValid = true := by decide
theorem witness_StepRunsTheControllerCommand :
    readStream [⟨false, 0x15#8⟩, ⟨true, 0x1C#8⟩, ⟨true, 0x5B#8⟩, ⟨false, 0x75#8⟩] =
      .command (.columnAddress 0x1C#8 0x5B#8) [⟨false, 0x75#8⟩] := by decide

end Sys2Proof.Tests
end

section
/-! SUPPORT. What stands where in the two step lists, and how STEP walks along them (spec/10_state.md R37). -/

namespace Sys2Proof

/-- What two neighbouring steps of a sequence satisfy: DONE is followed by nothing (R37), SWAP follows the step that drives the DC
line to data, and PAYLOAD follows SWAP (R141). -/
def SeqStep.Before (a b : SeqStep) : Prop := a ≠ .done ∧ (b = .swap → a = .dc true) ∧ (b = .payload → a = .swap)

/-- R160: the length of every write fits WR_LEN. -/
theorem SeqStep.writeLen_lt {st : SeqStep} (h : st.wellFormed = true) : st.writeLen < 2 ^ 14 := by
  cases st with
  | dat ds =>
    simp only [wellFormed, Bool.or_eq_true, beq_iff_eq] at h
    simp only [writeLen]
    omega
  | _ => simp [writeLen, bufEntries]

/-- R90: the steps that drive a line or swap, and so complete as they start. -/
def SeqStep.instant : SeqStep → Bool
  | .rst _ | .dc _ | .swap => true
  | .dly _ | .cmd _ | .dat _ | .payload | .done => false

/-- R90: a step makes a write, completes at once, asks for a delay, or leaves the sequence. -/
theorem SeqStep.kinds {st : SeqStep} (h : st.wellFormed = true) :
    0 < st.writeLen ∨ st.instant = true ∨ (∃ n, st = .dly n) ∨ st = .done := by
  cases st with
  | dat ds =>
    simp only [wellFormed, Bool.or_eq_true, beq_iff_eq] at h
    exact .inl (by simp only [writeLen]; omega)
  | _ => simp [writeLen, instant, bufEntries]

end Sys2Proof

namespace Sys2Proof.Machine

section
variable (c : Config)

theorem flushSequence_chain : (flushSequence c).IsChain SeqStep.Before := by
  simp [flushSequence, frameSteps, SeqStep.Before]

theorem initSequence_chain : (initSequence c).IsChain SeqStep.Before := by
  simp [initSequence, resetPulse, registerProgramming, frameSteps, SeqStep.Before]

theorem flushSequence_wellFormed : (flushSequence c).all SeqStep.wellFormed = true := rfl

theorem initSequence_wellFormed : (initSequence c).all SeqStep.wellFormed = true := rfl

/-- R125: the reset line is driven by INIT's steps 0, 1 and 3 only, and step 1 alone asserts it. -/
theorem initSequence_rst {c : Config} {k : Nat} {l : Bool} (h : (initSequence c)[k]? = some (.rst l)) :
    l = true ∧ (k = 0 ∨ k = 3) ∨ l = false ∧ k = 1 := by
  obtain ⟨hk, -⟩ := List.getElem?_eq_some_iff.1 h
  have hk : k < 36 := hk
  interval_cases k <;>
    simp_all [initSequence, resetPulse, registerProgramming, frameSteps]

theorem flushSequence_rst {c : Config} {k : Nat} {l : Bool} : (flushSequence c)[k]? ≠ some (.rst l) := by
  intro h
  have := List.mem_of_getElem? h
  simp [flushSequence, frameSteps] at this

end

/-- In a list that ends in DONE and is chained by `Before`, every step but DONE has a next one. -/
theorem next_of_chain {l : List SeqStep} (hl : l.IsChain SeqStep.Before) (hlast : l.getLast? = some .done) {k : Nat} {st : SeqStep}
    (h : l[k]? = some st) (hd : st ≠ .done) : ∃ st', l[k + 1]? = some st' ∧ st.Before st' := by
  obtain ⟨hk, rfl⟩ := List.getElem?_eq_some_iff.1 h
  by_cases hk1 : k + 1 < l.length
  · exact ⟨l[k + 1], List.getElem?_eq_getElem hk1, List.isChain_iff_getElem.1 hl k hk1⟩
  · rw [List.getLast?_eq_getElem?, show l.length - 1 = k by omega, h] at hlast
    exact absurd (Option.some.inj hlast) hd

namespace State

/-- A sequence runs (R35). -/
abbrev running (s : State) : Prop := s.phase = .initSeq ∨ s.phase = .flushSeq

theorem sequence_init {s : State} (h : s.phase = .initSeq) : s.sequence = initSequence s.cfg := by simp [sequence, h]

theorem sequence_flush {s : State} (h : s.phase = .flushSeq) : s.sequence = flushSequence s.cfg := by simp [sequence, h]

/-- Outside the sequences there is no current step. -/
theorem currentStep_eq_none {s : State} (h : ¬ s.running) : s.currentStep = none := by
  unfold currentStep sequence
  cases hp : s.phase <;> simp_all [running]

theorem running_of_currentStep {s : State} {st : SeqStep} (h : s.currentStep = some st) : s.running := by
  by_contra hr
  simp [currentStep_eq_none hr] at h

/-- R78: the step list depends on PHASE and the configuration only. -/
theorem sequence_congr {s t : State} (hp : t.phase = s.phase) (hc : t.cfg = s.cfg) : t.sequence = s.sequence := by
  simp [sequence, hp, hc]

/-- The current step depends on PHASE, STEP and the configuration only. -/
theorem currentStep_congr {s t : State} (hp : t.phase = s.phase) (hc : t.cfg = s.cfg) (hs : t.stepPtr = s.stepPtr) :
    t.currentStep = s.currentStep := by
  simp [currentStep, sequence_congr hp hc, hs]

theorem sequence_length_le (s : State) : s.sequence.length ≤ 36 := by
  unfold sequence
  cases s.phase <;> simp [initSequence, resetPulse, registerProgramming, flushSequence, frameSteps]

theorem stepPtr_lt {s : State} {st : SeqStep} (h : s.currentStep = some st) : s.stepPtr.toNat < s.sequence.length :=
  (List.getElem?_eq_some_iff.1 h).1

/-- R37: STEP does not wrap. -/
theorem stepPtr_succ {s : State} {st : SeqStep} (h : s.currentStep = some st) : (s.stepPtr + 1#6).toNat = s.stepPtr.toNat + 1 := by
  have := stepPtr_lt h
  have := s.sequence_length_le
  rw [BitVec.toNat_add]
  simp
  omega

/-- Every step of the two sequences is well formed (R90). -/
theorem currentStep_wellFormed {s : State} {st : SeqStep} (h : s.currentStep = some st) : st.wellFormed = true := by
  have hm : st ∈ s.sequence := List.mem_of_getElem? h
  rcases running_of_currentStep h with hp | hp
  · rw [sequence_init hp] at hm
    exact List.all_eq_true.1 (initSequence_wellFormed s.cfg) st hm
  · rw [sequence_flush hp] at hm
    exact List.all_eq_true.1 (flushSequence_wellFormed s.cfg) st hm

/-- R37: after every step but DONE, STEP + 1 points at the next one. -/
theorem nextStep_exists {s : State} {st : SeqStep} (h : s.currentStep = some st) (hd : st ≠ .done) :
    ∃ st', s.sequence[s.stepPtr.toNat + 1]? = some st' ∧ st.Before st' := by
  have h' := h
  unfold currentStep at h'
  rcases running_of_currentStep h with hp | hp
  · rw [sequence_init hp] at h' ⊢
    exact next_of_chain (initSequence_chain s.cfg) rfl h' hd
  · rw [sequence_flush hp] at h' ⊢
    exact next_of_chain (flushSequence_chain s.cfg) rfl h' hd

/-- R37: the current step of a state in which STEP has moved on. -/
theorem currentStep_of_advance {s t : State} (hp : t.phase = s.phase) (hc : t.cfg = s.cfg) (hs : t.stepPtr = s.stepPtr + 1#6)
    {st : SeqStep} (h : s.currentStep = some st) : t.currentStep = s.sequence[s.stepPtr.toNat + 1]? := by
  rw [currentStep, sequence_congr hp hc, hs, stepPtr_succ h]

end State
end Sys2Proof.Machine
end

section
/-! SUPPORT. The sequencer's invariant (spec/10_state.md R37, R91): the ways in which a step can leave it true,
and that every step is one of them. -/

namespace Sys2Proof.Machine
namespace State

/-- R125: where the two sequences drive the reset line. -/
theorem rst_position {s : State} {l : Bool} (h : s.currentStep = some (.rst l)) :
    s.phase = .initSeq ∧ (l = true ∧ (s.stepPtr.toNat = 0 ∨ s.stepPtr.toNat = 3) ∨ l = false ∧ s.stepPtr.toNat = 1) := by
  have hr := running_of_currentStep h
  unfold currentStep at h
  rcases hr with hp | hp
  · rw [sequence_init hp] at h
    exact ⟨hp, initSequence_rst h⟩
  · rw [sequence_flush hp] at h
    exact absurd h flushSequence_rst

end State

namespace State.SequencerOk

/-- The invariant reads only the block's registers. -/
theorem congr {s t : State} (h : s.SequencerOk) (hcfg : t.cfg = s.cfg) (hphase : t.phase = s.phase) (hptr : t.stepPtr = s.stepPtr)
    (hwr : t.wr = s.wr) (hdly : t.dly = s.dly) (hcur : t.cur = s.cur) (hinit : t.initDone = s.initDone) (hdc : t.dcLvl = s.dcLvl)
    (hrst : t.rstLvl = s.rstLvl) (hrsp : t.rsp = s.rsp) : t.SequencerOk := by
  have hstep := currentStep_congr hphase hcfg hptr
  constructor <;> simp only [hphase, hptr, hwr, hdly, hcur, hinit, hdc, hrst, hrsp, hstep]
  exacts [h.stepExists, h.writing, h.delaying, h.initRuns, h.flushRuns, h.clearRuns, h.dataMode, h.resetLow, h.answers]

theorem edgeTaken {s : State} (h : s.SequencerOk) : s.edgeTaken.SequencerOk := h.congr rfl rfl rfl rfl rfl rfl rfl rfl rfl rfl

/-- Outside the sequences nothing is on the block's ports and the reset line is high. -/
theorem ports_still {s : State} (h : s.SequencerOk) (hr : ¬ s.running) :
    s.wr.active = false ∧ s.dly.active = false ∧ s.rstLvl = true := by
  have hstep := currentStep_eq_none hr
  refine ⟨?_, ?_, ?_⟩ <;> by_contra hc
  · obtain ⟨st, hst, -⟩ := h.writing (by simpa using hc)
    simp [hstep] at hst
  · simpa [hstep] using h.delaying (by simpa using hc)
  · exact hr (.inl (h.resetLow (by simpa using hc)).1)

/-- A state outside the sequences with nothing on its ports is consistent if its latched command fits its phase. -/
theorem of_not_running {s : State} (hr : ¬ s.running) (hwr : s.wr.active = false) (hdly : s.dly.active = false)
    (hrst : s.rstLvl = true) (hclear : s.phase = .clearing → s.cur.op = 0b01#2)
    (hrsp : s.phase = .respond → s.rsp.op = s.cur.op ∧ (s.rsp.err = true → s.cur.op = 0b10#2 ∨ s.cur.op = 0b11#2)) :
    s.SequencerOk where
  stepExists h := absurd h hr
  writing h := by simp [hwr] at h
  delaying h := by simp [hdly] at h
  initRuns h := absurd (.inl h) hr
  flushRuns h := absurd (.inr h) hr
  clearRuns := hclear
  dataMode h := by simp [currentStep_eq_none hr] at h
  resetLow h := by simp [hrst] at h
  answers := hrsp

/-- R123, R140: a sequence that has just been started is consistent. -/
theorem of_started {s : State} (hr : s.running) (hptr : s.stepPtr = 0#6) (hwr : s.wr.active = false) (hdly : s.dly.active = false)
    (hrst : s.rstLvl = true) (hinit : s.phase = .initSeq → s.cur.op = 0b10#2 ∧ s.initDone = false)
    (hflush : s.phase = .flushSeq → s.cur.op = 0b11#2) : s.SequencerOk := by
  have hfirst : s.currentStep = some (.rst true) ∨ s.currentStep = some (.cmd 0x15#8) := by
    rw [currentStep, hptr]
    exact hr.imp (fun hp => by rw [sequence_init hp]; rfl) (fun hp => by rw [sequence_flush hp]; rfl)
  exact {
    stepExists := fun _ => by rcases hfirst with hf | hf <;> simp [hf]
    writing := fun h => by simp [hwr] at h
    delaying := fun h => by simp [hdly] at h
    initRuns := hinit
    flushRuns := hflush
    clearRuns := fun h => by simp [running, h] at hr
    dataMode := fun h => by rcases hfirst with hf | hf <;> simp [hf] at h
    resetLow := fun h => by simp [hrst] at h
    answers := fun h => by simp [running, h] at hr }

/-- R125: the reset line is low only while INIT is at its first delay or at the RST step that ends the pulse. -/
theorem step_of_rst_low {s : State} (h : s.SequencerOk) {st : SeqStep} (hst : s.currentStep = some st) (hl : s.rstLvl = false) :
    s.phase = .initSeq ∧ ((∃ n, st = .dly n) ∧ s.stepPtr.toNat = 2 ∨ st = .rst true) := by
  obtain ⟨hp, hptr⟩ := h.resetLow hl
  rw [currentStep, sequence_init hp] at hst
  refine ⟨hp, hptr.imp (fun e => ?_) (fun e => ?_)⟩ <;> rw [e] at hst <;> cases hst
  · exact ⟨⟨_, rfl⟩, by rw [e]; rfl⟩
  · rfl

/-- R160, R161: a step that writes finds the reset line high. -/
theorem rst_high_of_write {s : State} (h : s.SequencerOk) {st : SeqStep} (hst : s.currentStep = some st) (hw : 0 < st.writeLen) :
    s.rstLvl = true := by
  by_contra hl
  rcases (h.step_of_rst_low hst (by simpa using hl)).2 with ⟨⟨n, rfl⟩, -⟩ | rfl <;> simp [SeqStep.writeLen] at hw

/-- A write in progress is the current step's, and no delay request runs beside it. -/
theorem write_excludes_delay {s : State} (h : s.SequencerOk) (hw : s.wr.active = true) : s.dly.active = false := by
  obtain ⟨st, hst, hlen, -⟩ := h.writing hw
  by_contra hd
  rw [h.delaying (by simpa using hd)] at hst
  cases hst
  simp [SeqStep.writeLen] at hlen

/-- R86: INIT and FLUSH latch their own operation code. -/
theorem op_of_running {s : State} (h : s.SequencerOk) (hr : s.running) : s.cur.op = 0b10#2 ∨ s.cur.op = 0b11#2 :=
  hr.imp (fun hp => (h.initRuns hp).1) h.flushRuns

/-- R37: a step of a sequence that is not DONE completes, and STEP moves on.  The reset line's clause is left to the steps that drive
the line; SWAP and PAYLOAD get the DC level from the step before them. -/
theorem of_advance {s t : State} (h : s.SequencerOk) {st : SeqStep} (hst : s.currentStep = some st) (hd : st ≠ .done)
    (hcfg : t.cfg = s.cfg) (hphase : t.phase = s.phase) (hptr : t.stepPtr = s.stepPtr + 1#6) (hcur : t.cur = s.cur)
    (hinit : t.initDone = s.initDone) (hwr : t.wr.active = false) (hdly : t.dly.active = false)
    (hdc : st = .dc true ∨ st = .swap → t.dcLvl = true)
    (hrst : t.rstLvl = false → s.phase = .initSeq ∧ (s.stepPtr.toNat = 1 ∨ s.stepPtr.toNat = 2)) : t.SequencerOk := by
  obtain ⟨st', hst', -, hswap, hpayload⟩ := nextStep_exists hst hd
  have hnext : t.currentStep = some st' := (currentStep_of_advance hphase hcfg hptr hst).trans hst'
  have hr : t.running := by rw [running, hphase]; exact running_of_currentStep hst
  exact {
    stepExists := fun _ => by simp [hnext]
    writing := fun h => by simp [hwr] at h
    delaying := fun h => by simp [hdly] at h
    initRuns := by rw [hphase, hcur, hinit]; exact h.initRuns
    flushRuns := by rw [hphase, hcur]; exact h.flushRuns
    clearRuns := fun hp => by simp [running, hp] at hr
    dataMode := fun hs => by
      rw [hnext] at hs
      exact hdc (hs.imp (fun e => hswap (Option.some.inj e)) (fun e => hpayload (Option.some.inj e)))
    resetLow := fun hl => by
      obtain ⟨hp, hk⟩ := hrst hl
      have hsucc := stepPtr_succ hst
      refine ⟨hphase.trans hp, ?_⟩
      rw [hptr]
      exact hk.imp (fun e => BitVec.eq_of_toNat_eq (by rw [hsucc, e]; rfl)) (fun e => BitVec.eq_of_toNat_eq (by rw [hsucc, e]; rfl))
    answers := fun hp => by simp [running, hp] at hr }

/-- R160, R161: a write of the current step is in progress, under its own DC level. -/
theorem of_writing {s t : State} (h : s.SequencerOk) {st : SeqStep} (hst : s.currentStep = some st) (hlen : 0 < st.writeLen)
    (hcfg : t.cfg = s.cfg) (hphase : t.phase = s.phase) (hptr : t.stepPtr = s.stepPtr) (hcur : t.cur = s.cur)
    (hinit : t.initDone = s.initDone) (hrst : t.rstLvl = s.rstLvl) (hdly : t.dly.active = false)
    (hdc : t.dcLvl = st.writeDc) (hwdc : t.wr.dc = st.writeDc) (hwlen : t.wr.len.toNat = st.writeLen)
    (hpos : t.wr.pos.toNat ≤ t.wr.len.toNat) : t.SequencerOk := by
  have hstep : t.currentStep = some st := (currentStep_congr hphase hcfg hptr).trans hst
  have hr : t.running := running_of_currentStep hstep
  exact {
    stepExists := fun _ => by simp [hstep]
    writing := fun _ => ⟨st, hstep, hlen, hwlen, hwdc, hdc.trans hwdc.symm, hpos⟩
    delaying := fun h => by simp [hdly] at h
    initRuns := by rw [hphase, hcur, hinit]; exact h.initRuns
    flushRuns := by rw [hphase, hcur]; exact h.flushRuns
    clearRuns := fun hp => by simp [running, hp] at hr
    dataMode := fun hs => by
      rw [hstep] at hs
      rcases hs with hs | hs <;> cases hs
      · simp [SeqStep.writeLen] at hlen
      · exact hdc
    resetLow := fun hl => by rw [hrst, h.rst_high_of_write hst hlen] at hl; cases hl
    answers := fun hp => by simp [running, hp] at hr }

/-- R120: the delay request of the current step begins. -/
theorem startDelay {s : State} (h : s.SequencerOk) {n : Millis} (hst : s.currentStep = some (.dly n)) (hwr : s.wr.active = false) :
    (s.startDelay n).SequencerOk where
  stepExists := h.stepExists
  writing := fun hw => by simp [hwr] at hw
  delaying _ := hst
  initRuns := h.initRuns
  flushRuns := h.flushRuns
  clearRuns := h.clearRuns
  dataMode := h.dataMode
  resetLow := h.resetLow
  answers := h.answers

end State.SequencerOk

/-! The edges of a sequence. -/

section
variable {e : Edge} {s : State} {st : SeqStep}

/-- R201: a failed write leaves the sequence, and its command answers with the error. -/
theorem State.SequencerOk.failWrite (h : s.SequencerOk) (hst : s.currentStep = some st) (hw : s.wr.active = true) :
    (s.failWrite e st).SequencerOk := by
  obtain ⟨st', hst', hlen, -⟩ := h.writing hw
  exact .of_not_running (by simp [State.running]) (by simp) (by simpa using h.write_excludes_delay hw)
    (by simpa using h.rst_high_of_write hst' hlen) (by simp)
    (by simpa using h.op_of_running (State.running_of_currentStep hst))

/-- R162: an edge with bytes unsent keeps WR_POS within the write. -/
theorem State.SequencerOk.offerByte (h : s.SequencerOk) (hw : s.wr.active = true) (hu : s.wr.unsent = true) :
    (s.offerByte e).SequencerOk := by
  obtain ⟨st, hst, hlen, hwlen, hwdc, hdc, -⟩ := h.writing hw
  obtain ⟨-, hkdc, hklen, hkpos⟩ := State.offer_keeps s.wr e s.stalled
  have hlt : s.wr.pos.toNat < s.wr.len.toNat := by simpa [Writer.unsent, hw, BitVec.lt_def] using hu
  have hlt' := s.wr.len.isLt
  refine .of_writing h hst hlen (by simp) (by simp) (by simp) (by simp) (by simp) (by simp)
    (by simpa using h.write_excludes_delay hw) (by simpa [hwdc] using hdc) ?_ ?_ ?_
  · simpa [hkdc] using hwdc
  · simpa [hklen] using hwlen
  · rcases hkpos with hp | hp
    · simpa [hklen, hp] using hlt.le
    · simp only [State.offerByte_wr, hklen, hp, BitVec.toNat_add, BitVec.toNat_ofNat]
      omega

/-- R90: what the start of a write leaves.  PAYLOAD finds the DC line where it wants it (R91). -/
theorem State.startStep_write (e : Edge) (s : State) {st : SeqStep} (hlen : 0 < st.writeLen) :
    (s.startStep e st).phase = s.phase ∧ (s.startStep e st).stepPtr = s.stepPtr ∧ (s.startStep e st).initDone = s.initDone ∧
    (s.startStep e st).rstLvl = s.rstLvl ∧ (s.startStep e st).dly = s.dly ∧
    (s.startStep e st).wr = ⟨true, st.writeDc, BitVec.ofNat 14 st.writeLen, 0#14, leavesGap e 0⟩ ∧
    ((st = .payload → s.dcLvl = true) → (s.startStep e st).dcLvl = st.writeDc) := by
  cases st <;> simp_all [State.startStep, SeqStep.writeDc, SeqStep.writeLen]

/-- R90: what a step that completes at once leaves. -/
theorem State.startStep_instant (e : Edge) (s : State) {st : SeqStep} (hi : st.instant = true) :
    (s.startStep e st).phase = s.phase ∧ (s.startStep e st).stepPtr = s.stepPtr + 1#6 ∧
    (s.startStep e st).initDone = s.initDone ∧ (s.startStep e st).wr = s.wr ∧ (s.startStep e st).dly = s.dly ∧
    (st = .dc true ∨ st = .swap ∧ s.dcLvl = true → (s.startStep e st).dcLvl = true) ∧
    ((s.startStep e st).rstLvl = false → st = .rst false ∨ s.rstLvl = false ∧ ∀ l, st ≠ .rst l) := by
  cases st <;> simp_all [State.startStep, SeqStep.instant]

theorem State.SequencerOk.startStep_instant (h : s.SequencerOk) (hst : s.currentStep = some st) (hi : st.instant = true)
    (hw : s.wr.active = false) (hd : s.dly.active = false) : (s.startStep e st).SequencerOk := by
  obtain ⟨hp, hptr, hinit, hwr, hdly, hdc, hrst⟩ := s.startStep_instant e hi
  refine h.of_advance hst (by rintro rfl; cases hi) (by simp) hp hptr (by simp) hinit (by rw [hwr]; exact hw)
    (by rw [hdly]; exact hd) (fun hs => hdc (hs.imp_right fun e => ⟨e, h.dataMode (.inl (e ▸ hst))⟩)) fun hlow => ?_
  rcases hrst hlow with rfl | ⟨hlow, hne⟩
  · obtain ⟨hph, hpos⟩ := State.rst_position hst
    exact ⟨hph, .inl (by simpa using hpos)⟩
  · obtain ⟨hph, hpos⟩ := h.step_of_rst_low hst hlow
    exact ⟨hph, .inr (hpos.resolve_right (hne true)).2⟩

theorem State.SequencerOk.startStep_write (h : s.SequencerOk) (hst : s.currentStep = some st) (hlen : 0 < st.writeLen)
    (hd : s.dly.active = false) : (s.startStep e st).SequencerOk := by
  obtain ⟨hp, hptr, hinit, hrst, hdly, hwr, hdc⟩ := s.startStep_write e hlen
  have hfit : (BitVec.ofNat 14 st.writeLen).toNat = st.writeLen :=
    Nat.mod_eq_of_lt (SeqStep.writeLen_lt (State.currentStep_wellFormed hst))
  exact h.of_writing hst hlen (by simp) hp hptr (by simp) hinit hrst (by rw [hdly]; exact hd)
    (hdc fun hs => h.dataMode (.inr (hs ▸ hst))) (by rw [hwr]) (by rw [hwr]; exact hfit) (by simp [hwr])

/-- R129, R140: DONE answers for the command that ran. -/
theorem State.SequencerOk.finishSequence (h : s.SequencerOk) (hst : s.currentStep = some .done) (hw : s.wr.active = false)
    (hd : s.dly.active = false) : s.finishSequence.SequencerOk := by
  have hrst : s.rstLvl = true := by
    by_contra hlow
    simpa using h.step_of_rst_low hst (by simpa using hlow)
  rcases State.running_of_currentStep hst with hp | hp
  · rw [State.finishSequence_init hp]
    exact .of_not_running (by simp [State.running]) hw hd hrst (by simp) (by simp [(h.initRuns hp).1])
  · rw [State.finishSequence_flush hp]
    exact .of_not_running (by simp [State.running]) hw hd hrst (by simp) (by simp [h.flushRuns hp])

/-- R90: however a step starts. -/
theorem State.SequencerOk.startStep (h : s.SequencerOk) (hst : s.currentStep = some st) (hw : s.wr.active = false)
    (hd : s.dly.active = false) : (s.startStep e st).SequencerOk := by
  rcases SeqStep.kinds (State.currentStep_wellFormed hst) with hlen | hi | ⟨n, rfl⟩ | rfl
  · exact h.startStep_write hst hlen hd
  · exact h.startStep_instant hst hi hw hd
  · exact h.startDelay hst hw
  · exact h.finishSequence hst hw hd

/-- R163: a write that succeeds. -/
theorem State.SequencerOk.completeWrite (h : s.SequencerOk) (hst : s.currentStep = some st) (hw : s.wr.active = true) :
    (s.completeWrite st).SequencerOk := by
  obtain ⟨st', hst', hlen, -⟩ := h.writing hw
  obtain rfl : st = st' := Option.some.inj (hst.symm.trans hst')
  refine h.of_advance hst ?_ (by simp) (by simp) (by simp) (by simp) (by simp) (by simp)
    (by simpa using h.write_excludes_delay hw) ?_ fun hlow => ?_
  · rintro rfl; cases hlen
  · rintro (rfl | rfl) <;> cases hlen
  · rw [State.completeWrite_rstLvl, h.rst_high_of_write hst hlen] at hlow; cases hlow

/-- R120: a delay that ends. -/
theorem State.SequencerOk.delayEnds (h : s.SequencerOk) (hst : s.currentStep = some st) (hw : s.wr.active = false)
    (hd : s.dly.active = true) : (((s.log (.dly s.dly.ms)).setDly { s.dly with active := false }).advance).SequencerOk := by
  obtain rfl : st = .dly s.dly.ms := Option.some.inj (hst.symm.trans (h.delaying hd))
  refine h.of_advance hst (by simp) rfl rfl rfl rfl rfl hw rfl (by simp) fun hlow => ?_
  obtain ⟨hph, hpos⟩ := h.step_of_rst_low hst hlow
  exact ⟨hph, .inr (hpos.resolve_right (by simp)).2⟩

/-- Every edge of a sequence keeps the sequencer consistent. -/
theorem EdgeDoes.sequencerOk {t : State} (hd : EdgeDoes e s st t) (h : s.SequencerOk) (hst : s.currentStep = some st) :
    t.SequencerOk := by
  cases hd with
  | waits => exact h
  | stalls => exact h.congr rfl rfl rfl rfl rfl rfl rfl rfl rfl rfl
  | offers ha hu => exact h.offerByte ha hu
  | failsEarly ha hu => exact (h.offerByte ha hu).failWrite hst ((State.offer_keeps _ _ _).1.trans ha)
  | failsLate ha => exact h.failWrite hst ha
  | completes ha => exact h.completeWrite hst ha
  | delayEnds ha hd => exact h.delayEnds hst ha hd
  | starts ha hd =>
    have hpaced : (s.paced e).SequencerOk := h.congr rfl rfl rfl rfl rfl rfl rfl rfl rfl rfl
    exact hpaced.startStep hst ha hd

end

/-- Every instruction keeps the sequencer consistent. -/
theorem ExecDoes.sequencerOk {s t : State} (hd : ExecDoes s t) (h : s.SequencerOk) : t.SequencerOk := by
  cases hd with
  | controller r => exact h.congr rfl rfl rfl rfl rfl rfl rfl rfl rfl rfl
  | waits => exact h
  | setpx hp x y g =>
    obtain ⟨hw, hd, hr⟩ := h.ports_still (by simp [State.running, hp])
    exact .of_not_running (by simp [State.running]) (by simpa using hw) (by simpa using hd) (by simpa using hr) (by simp) (by simp)
  | clear hp g =>
    obtain ⟨hw, hd, hr⟩ := h.ports_still (by simp [State.running, hp])
    exact .of_not_running (by simp [State.running]) hw hd hr (fun _ => rfl) (by simp)
  | init hp =>
    obtain ⟨hw, hd, hr⟩ := h.ports_still (by simp [State.running, hp])
    exact .of_started (.inl rfl) rfl hw hd hr (fun _ => ⟨rfl, rfl⟩) (by simp)
  | flush hp =>
    obtain ⟨hw, hd, hr⟩ := h.ports_still (by simp [State.running, hp])
    exact .of_started (.inr rfl) rfl hw hd hr (by simp) (fun _ => rfl)

/-- R104: an edge of CLEAR moves CLR_IDX on, or fills the last entry and answers. -/
theorem State.clearEdge_cases {s : State} (hp : s.phase = .clearing) (e : Edge) :
    s.clrIdx.toNat + s.pace e < bufEntries ∧ (s.clearEdge e).phase = .clearing ∧
      (s.clearEdge e).clrIdx.toNat = s.clrIdx.toNat + s.pace e ∨
    bufEntries ≤ s.clrIdx.toNat + s.pace e ∧ (s.clearEdge e).phase = .respond ∧ (s.clearEdge e).rsp = ⟨0b01#2, false⟩ := by
  simp only [bufEntries]
  unfold clearEdge
  dsimp only
  split <;> rename_i hle <;> simp only [bufEntries] at hle
  · exact .inr ⟨by omega, rfl, rfl⟩
  · refine .inl ⟨by omega, hp, ?_⟩
    simp only [setClrIdx_clrIdx, BitVec.toNat_add, BitVec.toNat_ofNat, bufEntries]
    omega

/-- R230: an edge of the reset fill moves CLR_IDX on, or zeroes the last entry and makes the block IDLE. -/
theorem State.fillEdge_cases {s : State} (hp : s.phase = .filling) (e : Edge) :
    s.clrIdx.toNat + s.pace e < frameEntries ∧ (s.fillEdge e).phase = .filling ∧
      (s.fillEdge e).clrIdx.toNat = s.clrIdx.toNat + s.pace e ∨
    frameEntries ≤ s.clrIdx.toNat + s.pace e ∧ (s.fillEdge e).phase = .idle := by
  simp only [frameEntries]
  unfold fillEdge
  dsimp only
  split <;> rename_i hle <;> simp only [frameEntries] at hle
  · exact .inr ⟨by omega, rfl⟩
  · refine .inl ⟨by omega, hp, ?_⟩
    simp only [setClrIdx_clrIdx, BitVec.toNat_add, BitVec.toNat_ofNat, frameEntries]
    omega

/-- Every step keeps the sequencer consistent. -/
theorem StepDoes.sequencerOk {s t : State} (hd : StepDoes s t) (h : s.SequencerOk) : t.SequencerOk := by
  have hfetched (u : State)
      (hu : u = { s with inbox := u.inbox, coming := u.coming, tick := u.tick, trace := u.trace, ctrl := u.ctrl }) :
      u.SequencerOk := by rw [hu]; exact h.congr rfl rfl rfl rfl rfl rfl rfl rfl rfl rfl
  cases hd with
  | command i rest hr t hx => exact (exec_does hx).sequencerOk (hfetched _ rfl)
  | data bytes rest hr => exact hfetched _ (by rw [State.takeData_eq]; rfl)
  | cutShort rest hr => exact hfetched _ rfl
  | reset => exact .of_not_running (by simp [State.running]) rfl rfl (by simp) (by simp) (by simp)
  | accept hq hn hp hv t hx => exact (exec_does hx).sequencerOk (hfetched _ rfl)
  | still => exact h.edgeTaken
  | responds => exact h.edgeTaken
  | clears hq hn hp =>
    obtain ⟨hw, hd, hr⟩ := h.edgeTaken.ports_still (by simp [State.running, hp])
    have hop : s.cur.op = 0b01#2 := h.clearRuns hp
    rcases State.clearEdge_cases (s := s.edgeTaken) hp s.edge with ⟨-, hph, -⟩ | ⟨-, hph, hrsp⟩
    · exact .of_not_running (by simp [State.running, hph]) (by simpa using hw) (by simpa using hd) (by simpa using hr)
        (by simp [hop]) (by simp [hph])
    · exact .of_not_running (by simp [State.running, hph]) (by simpa using hw) (by simpa using hd) (by simpa using hr)
        (by simp [hph]) (by simp [hrsp, hop])
  | fills hq hn hp =>
    obtain ⟨hw, hd, hr⟩ := h.edgeTaken.ports_still (by simp [State.running, hp])
    rcases State.fillEdge_cases (s := s.edgeTaken) hp s.edge with ⟨-, hph, -⟩ | ⟨-, hph⟩ <;>
      exact .of_not_running (by simp [State.running, hph]) (by simpa using hw) (by simpa using hd) (by simpa using hr)
        (by simp [hph]) (by simp [hph])
  | taken hq hn hp =>
    obtain ⟨hw, hd, hr⟩ := h.edgeTaken.ports_still (by simp [State.running, hp])
    exact .of_not_running (by simp [State.running]) hw hd hr (by simp) (by simp)
  | sequence hq hn hp st hc t hx => exact hx.sequencerOk h.edgeTaken hc

/-- Settles O47: every way a step can go keeps the invariant (`StepDoes.sequencerOk`). -/
theorem sequencerStaysConsistent : Obligations.SequencerStaysConsistent := fun _ _ h hs => (step_does hs).sequencerOk h

end Sys2Proof.Machine
end

section
/-! SUPPORT. The frame store's invariants (spec/10_state.md R32; spec/40_frame_store.md R104; spec/70_reset_and_hazards.md R230). -/

namespace Sys2Proof.Machine

/-- A fill leaves an entry alone or writes its value there, wherever it starts. -/
theorem Memory.read_fill_or {m : Memory} (h : m.wf = true) (a : FrameAddr) (v : Byte) (n : Nat) (b : FrameAddr) :
    (m.fill a v n).read b = m.read b ∨ (m.fill a v n).read b = v := by
  induction n generalizing m a with
  | zero => exact .inl rfl
  | succ n ih =>
    rcases ih (Memory.wf_write h a v) (a + 1#14) with hb | hb
    · by_cases hab : b = a
      · subst hab
        exact .inr (hb.trans (Memory.read_write_self h b v))
      · exact .inl (hb.trans (Memory.read_write_other m v hab))
    · exact .inr hb

/-- R100: an entry value holds its gray level in both nibbles. -/
theorem entryOf_nibbles (g : Gray) : (entryOf g).extractLsb' 4 4 = (entryOf g).extractLsb' 0 4 := by
  revert g; decide

theorem State.clearEdge_mem (s : State) (e : Edge) : (s.clearEdge e).mem =
    s.mem.fill (frameAddr s.back 0#13 + s.clrIdx) (entryOf s.cur.gray) (min (s.pace e) (bufEntries - s.clrIdx.toNat)) := by
  unfold clearEdge
  dsimp only
  split <;> rfl

theorem State.fillEdge_mem (s : State) (e : Edge) :
    (s.fillEdge e).mem = s.mem.fill s.clrIdx (entryOf 0#4) (min (s.pace e) (frameEntries - s.clrIdx.toNat)) := by
  unfold fillEdge
  dsimp only
  split <;> rfl

/-- What an instruction does to the frame store: it writes at most one entry (R103). -/
theorem ExecDoes.mem_fill {s t : State} (hd : ExecDoes s t) : ∃ a g n, t.mem = s.mem.fill a (entryOf g) n := by
  cases hd with
  | setpx hp x y g =>
    by_cases hin : inRange x y = true
    · exact ⟨frameAddr s.back (entryIndex x y), g, 1, by simp [hin, Memory.fill, State.back]⟩
    · exact ⟨0#14, g, 0, by simp [hin, Memory.fill]⟩
  | _ => exact ⟨0#14, 0#4, 0, rfl⟩

/-- What a step does to the frame store: it writes one gray level to some entries in a row, or to none. -/
theorem StepDoes.mem_fill {s t : State} (hd : StepDoes s t) : ∃ a g n, t.mem = s.mem.fill a (entryOf g) n := by
  have hkept (hm : t.mem = s.mem) : ∃ a g n, t.mem = s.mem.fill a (entryOf g) n := ⟨0#14, 0#4, 0, hm⟩
  cases hd with
  | command i rest hr t hx => exact (exec_does hx).mem_fill
  | accept hq hn hp hv t hx => exact (exec_does hx).mem_fill
  | data bytes rest hr => exact hkept (by rw [State.takeData_eq]; rfl)
  | cutShort rest hr => exact hkept rfl
  | reset => exact hkept (by simp)
  | still => exact hkept rfl
  | clears => exact ⟨_, _, _, State.clearEdge_mem _ _⟩
  | fills => exact ⟨_, _, _, State.fillEdge_mem _ _⟩
  | responds => exact hkept rfl
  | taken => exact hkept rfl
  | sequence hq hn hp st hc t hx => exact hkept hx.keeps.2.1

/-- Every step keeps the frame store's canonical form. -/
theorem StepDoes.memoryOk {s t : State} (hd : StepDoes s t) (hm : s.MemoryOk) : t.MemoryOk := by
  obtain ⟨a, g, n, ht⟩ := hd.mem_fill
  rw [State.MemoryOk, ht]
  exact Memory.wf_fill hm _ _ _

/-- R32: every step keeps both nibbles of every entry equal. -/
theorem StepDoes.nibblesEqual {s t : State} (hd : StepDoes s t) (hm : s.MemoryOk) (h : s.NibblesEqual) : t.NibblesEqual := by
  intro b
  obtain ⟨a, g, n, ht⟩ := hd.mem_fill
  rcases Memory.read_fill_or hm a (entryOf g) n b with hb | hb <;> rw [ht, hb]
  · exact h b
  · exact entryOf_nibbles g

/-- Settles O46: what a step writes is the value of a gray level (`StepDoes.mem_fill`). -/
theorem nibblesStayEqual : Obligations.NibblesStayEqual := fun _ _ hm h hs => (step_does hs).nibblesEqual hm h

/-! The account of the fills. -/

/-- The account speaks of PHASE, CLR_IDX, FRONT, the latched gray level and the frame store only. -/
theorem State.FillOk.congr {s t : State} (h : s.FillOk) (hphase : t.phase = s.phase) (hidx : t.clrIdx = s.clrIdx)
    (hmem : t.mem = s.mem) (hfront : t.front = s.front) (hcur : t.cur = s.cur) : t.FillOk := by
  constructor <;> simp only [State.entry, State.back, hphase, hidx, hmem, hfront, hcur]
  exacts [h.filled, h.cleared]

/-- Where no fill runs there is nothing to account for. -/
theorem State.FillOk.of_no_fill {s : State} (hf : s.phase ≠ .filling) (hc : s.phase ≠ .clearing) : s.FillOk :=
  ⟨fun h => absurd h hf, fun h => absurd h hc⟩

/-- A fill that has just begun has nothing behind it. -/
theorem State.FillOk.of_begun {s : State} (h : s.clrIdx = 0#14) : s.FillOk := by
  constructor <;> intro _ _ hlt <;> simp [h] at hlt

/-- R104: an edge of CLEAR. -/
theorem State.FillOk.clearEdge {s : State} (h : s.FillOk) (hm : s.MemoryOk) (hp : s.phase = .clearing) (e : Edge) :
    (s.clearEdge e).FillOk := by
  rcases State.clearEdge_cases hp e with ⟨hlt, hph, hidx⟩ | ⟨-, hph, -⟩
  · refine ⟨fun hf => by simp [hph] at hf, fun _ i hi => ?_⟩
    have hback : (s.clearEdge e).back = s.back := by simp [State.back]
    rw [hback, State.clearEdge_cur, State.clearEdge_spec hm]
    split
    · rfl
    · exact h.cleared hp i (by simp only [bufEntries, true_and] at *; omega)
  · exact .of_no_fill (by simp [hph]) (by simp [hph])

/-- R230: an edge of the reset fill. -/
theorem State.FillOk.fillEdge {s : State} (h : s.FillOk) (hm : s.MemoryOk) (hp : s.phase = .filling) (e : Edge) :
    (s.fillEdge e).FillOk := by
  rcases State.fillEdge_cases hp e with ⟨hlt, hph, hidx⟩ | ⟨-, hph⟩
  · refine ⟨fun _ a ha => ?_, fun hc => by simp [hph] at hc⟩
    rw [State.fillEdge_spec hm]
    split
    · rfl
    · exact h.filled hp a (by simp only [frameEntries] at *; omega)
  · exact .of_no_fill (by simp [hph]) (by simp [hph])

theorem ExecDoes.fillOk {s t : State} (hd : ExecDoes s t) (h : s.FillOk) : t.FillOk := by
  cases hd with
  | controller r => exact h.congr rfl rfl rfl rfl rfl
  | waits => exact h
  | clear => exact .of_begun rfl
  | _ => exact .of_no_fill (by simp) (by simp)

/-- An edge of a sequence stays in its phase or answers. -/
theorem EdgeDoes.phase {e : Edge} {s t : State} {st : SeqStep} (hd : EdgeDoes e s st t) : t.phase = s.phase ∨ t.phase = .respond := by
  cases hd with
  | starts =>
    cases st with
    | done =>
      simp only [State.startStep, State.finishSequence]
      split <;> simp
    | _ => simp [State.startStep]
  | _ => simp

/-- Every step keeps the account of what the two fills have done. -/
theorem StepDoes.fillOk {s t : State} (hd : StepDoes s t) (hm : s.MemoryOk) (h : s.FillOk) : t.FillOk := by
  have htaken : s.edgeTaken.FillOk := h.congr rfl rfl rfl rfl rfl
  cases hd with
  | command i rest hr t hx => exact (exec_does hx).fillOk (h.congr rfl rfl rfl rfl rfl)
  | accept hq hn hp hv t hx => exact (exec_does hx).fillOk (h.congr rfl rfl rfl rfl rfl)
  | data bytes rest hr => rw [State.takeData_eq]; exact h.congr rfl rfl rfl rfl rfl
  | cutShort rest hr => exact h.congr rfl rfl rfl rfl rfl
  | reset => exact .of_begun rfl
  | still => exact htaken
  | clears hq hn hp => exact htaken.clearEdge hm hp _
  | fills hq hn hp => exact htaken.fillEdge hm hp _
  | responds => exact htaken
  | taken => exact .of_no_fill (by simp) (by simp)
  | sequence hq hn hp st hc t hx =>
    have hph : t.running ∨ t.phase = .respond := hx.phase.imp_left fun ht => by rw [State.running, ht]; exact hp
    exact .of_no_fill (fun hf => by simp [State.running, hf] at hph) (fun hf => by simp [State.running, hf] at hph)

end Sys2Proof.Machine
end

section
/-! SUPPORT. The controller's end (spec/44_controller_command_set.md R180): what reading its stream uses up, and that it never meets a
byte it cannot read. -/

namespace Sys2Proof

/-- R88: a command's arguments are as many as asked for, and what follows them is the end of the stream. -/
theorem takeArgs_got {n : Nat} {items rest : List BusByte} {args : List Byte} (h : takeArgs n items = .got args rest) :
    args.length = n ∧ rest <:+ items := by
  induction n generalizing items args with
  | zero => simp only [takeArgs, ArgsRead.got.injEq] at h; exact ⟨by rw [← h.1]; rfl, by rw [h.2]⟩
  | succ n ih =>
    cases items with
    | nil => simp [takeArgs] at h
    | cons b items =>
      simp only [takeArgs] at h
      split at h
      · cases hn : takeArgs n items with
        | got args' rest' =>
          simp only [hn, ArgsRead.cons, ArgsRead.got.injEq] at h
          obtain ⟨rfl, rfl⟩ := h
          obtain ⟨hlen, hsuf⟩ := ih hn
          exact ⟨by simp [hlen], hsuf.trans (List.suffix_cons b items)⟩
        | more => simp [hn, ArgsRead.cons] at h
        | cut r => simp [hn, ArgsRead.cons] at h
      · cases h

theorem takeArgs_cut {n : Nat} {items rest : List BusByte} (h : takeArgs n items = .cut rest) : rest <:+ items := by
  induction n generalizing items with
  | zero => simp [takeArgs] at h
  | succ n ih =>
    cases items with
    | nil => simp [takeArgs] at h
    | cons b items =>
      simp only [takeArgs] at h
      split at h
      · cases hn : takeArgs n items with
        | got args' rest' => simp [hn, ArgsRead.cons] at h
        | more => simp [hn, ArgsRead.cons] at h
        | cut r =>
          simp only [hn, ArgsRead.cons, ArgsRead.cut.injEq] at h
          subst h
          exact (ih hn).trans (List.suffix_cons b items)
      · exact ArgsRead.cut.inj h ▸ List.suffix_refl _

theorem afterData_suffix (items : List BusByte) : afterData items <:+ items := by
  induction items with
  | nil => exact List.suffix_refl _
  | cons b items ih =>
    simp only [afterData]
    split
    · exact ih.trans (List.suffix_cons b items)
    · exact List.suffix_refl _

/-- R89: a command with the number of argument bytes its row counts is an instruction. -/
theorem CtrlCmd.build_isSome {c : CtrlCmd} {args : List Byte} (h : args.length = c.argCount) : (c.build args).isSome = true := by
  cases c with
  | writeRam | allPixelsOff | allPixelsOn | normalMode | invertMode | displayOff | displayOn =>
    obtain rfl := List.length_eq_zero_iff.1 h
    rfl
  | muxRatio | startLine | offsetLine | clockDivider =>
    obtain ⟨a, rfl⟩ := List.length_eq_one_iff.1 h
    rfl
  | columnAddress | rowAddress | remap | enhancementA | enhancementB =>
    obtain ⟨a, b, rfl⟩ := List.length_eq_two.1 h
    rfl

/-- What the controller still holds after it has acted, where it can act. -/
def StreamRead.left : StreamRead → Option (List BusByte)
  | .command _ rest | .data _ rest | .cutShort rest => some rest
  | .waiting | .notACommand _ => none

/-- The controller acts on the head of its stream, and at least one byte of it is gone. -/
theorem readStream_left {items rest : List BusByte} (h : (readStream items).left = some rest) :
    rest <:+ items ∧ rest.length < items.length := by
  cases items with
  | nil => simp [readStream, StreamRead.left] at h
  | cons b items =>
    have hcons {r : List BusByte} (hr : r <:+ items) : r <:+ b :: items ∧ r.length < (b :: items).length :=
      ⟨hr.trans (List.suffix_cons b items), Nat.lt_succ_of_le hr.length_le⟩
    simp only [readStream] at h
    split at h
    · rename_i hd
      obtain rfl : afterData items = rest := by simpa [StreamRead.left, afterData, hd] using h
      exact hcons (afterData_suffix items)
    · split at h
      · simp [StreamRead.left] at h
      · split at h
        · simp [StreamRead.left] at h
        · rename_i hcut
          exact hcons (Option.some.inj h ▸ takeArgs_cut hcut)
        · rename_i hgot
          split at h
          · exact hcons (Option.some.inj h ▸ (takeArgs_got hgot).2)
          · simp [StreamRead.left] at h

/-- R180: a stream whose bytes under DC = 0 are all commands is never refused. -/
theorem readStream_ne_notACommand {items : List BusByte} (h : ∀ b ∈ items, b.dc = false → (CtrlCmd.ofByte b.byte).isSome = true)
    (c : Byte) : readStream items ≠ .notACommand c := by
  cases items with
  | nil => simp [readStream]
  | cons b items =>
    intro hr
    simp only [readStream] at hr
    split at hr
    · cases hr
    · rename_i hd
      have hb := h b (List.mem_cons_self ..) (by simpa using hd)
      split at hr
      · rename_i hn; simp [hn] at hb
      · split at hr
        · cases hr
        · cases hr
        · rename_i hgot
          split at hr
          · cases hr
          · rename_i hn
            exact absurd (CtrlCmd.build_isSome (takeArgs_got hgot).1) (by rw [hn]; exact Bool.false_ne_true)

/-- R180: the bytes the block emits are among the sixteen. -/
theorem ofByte_isSome_of_emitted {b : Byte} (h : b ∈ emittedBytes) : (CtrlCmd.ofByte b).isSome = true := by
  have hall : emittedBytes.all (fun b => (CtrlCmd.ofByte b).isSome) = true := by decide
  exact List.all_eq_true.1 hall b h

namespace Machine

/-- R40, R89: an instruction of the controller's stream writes the controller's registers and nothing else. -/
theorem exec_of_build {c : CtrlCmd} {args : List Byte} {i : Instr} (h : c.build args = some i) (s : State) :
    ∃ r, exec i s = .next (s.setCtrl r) := by
  rcases args with _ | ⟨a, _ | ⟨b, _ | ⟨d, rest⟩⟩⟩ <;> cases c <;> cases h <;> exact ⟨_, rfl⟩

theorem exec_of_readStream {items rest : List BusByte} {i : Instr} (h : readStream items = .command i rest) (s : State) :
    ∃ r, exec i s = .next (s.setCtrl r) := by
  cases items with
  | nil => simp [readStream] at h
  | cons b items =>
    simp only [readStream] at h
    split at h
    · cases h
    · split at h
      · cases h
      · split at h
        · cases h
        · cases h
        · split at h
          · rename_i hb
            cases h
            exact exec_of_build hb s
          · cases h

/-- While the controller acts, only its registers and its stream change: the stream loses bytes at its head. -/
theorem StepDoes.of_not_quiet {s t : State} (hd : StepDoes s t) (hq : ¬ s.quiet) :
    ∃ r rest, t = (s.setInbox rest).ticked.setCtrl r ∧ rest <:+ s.inbox ∧ rest.length < s.inbox.length := by
  cases hd with
  | command i rest hr t hx =>
    obtain ⟨r, hx'⟩ := exec_of_readStream hr (s.setInbox rest).ticked
    obtain rfl := Host.Outcome.next.inj (hx.symm.trans hx')
    exact ⟨r, rest, rfl, readStream_left (by simp [hr, StreamRead.left])⟩
  | data bytes rest hr => exact ⟨_, rest, State.takeData_eq _ _, readStream_left (by simp [hr, StreamRead.left])⟩
  | cutShort rest hr => exact ⟨_, rest, rfl, readStream_left (by simp [hr, StreamRead.left])⟩
  | reset hw | accept hw | still hw | clears hw | fills hw | responds hw | taken hw | sequence hw => exact absurd hw hq

/-! R180 as an invariant of the stream. -/

theorem State.InboxOk.of_suffix {s t : State} (h : s.InboxOk) (hs : t.inbox <:+ s.inbox) : t.InboxOk :=
  fun b hb => h b (hs.subset hb)

theorem State.InboxOk.of_eq {s t : State} (h : s.InboxOk) (hs : t.inbox = s.inbox) : t.InboxOk :=
  h.of_suffix (hs ▸ List.suffix_refl _)

/-- R180: what a step's write puts into the stream, all of its bytes or the first few. -/
theorem State.InboxOk.deliver {s t : State} (h : s.InboxOk) {st : SeqStep} (hst : s.currentStep = some st) {bytes : List Byte}
    (hbytes : bytes <+: s.writeBytes st) (ht : t.inbox = s.inbox ++ bytes.map (fun b => ⟨st.writeDc, b⟩)) : t.InboxOk := by
  intro b hb hdc
  rw [ht, List.mem_append, List.mem_map] at hb
  rcases hb with hb | ⟨v, hv, rfl⟩
  · exact h b hb hdc
  · have hwf := currentStep_wellFormed hst
    have hv := hbytes.subset hv
    cases st with
    | cmd c =>
      obtain rfl : v = c := by simpa [State.writeBytes] using hv
      exact ofByte_isSome_of_emitted (by simpa [SeqStep.wellFormed] using hwf)
    | dat | payload => cases hdc
    | _ => cases hv

/-- The bytes of a write do not depend on the serializer's registers. -/
theorem State.writeBytes_offerByte (s : State) (e : Edge) (st : SeqStep) : (s.offerByte e).writeBytes st = s.writeBytes st := by
  cases st <;> rfl

theorem EdgeDoes.inboxOk {e : Edge} {s t : State} {st : SeqStep} (hd : EdgeDoes e s st t) (h : s.InboxOk) (hs : s.SequencerOk)
    (hst : s.currentStep = some st) : t.InboxOk := by
  have hdc (ha : s.wr.active = true) : s.wr.dc = st.writeDc := by
    obtain ⟨st', hst', -, -, hdc, -⟩ := hs.writing ha
    rw [hdc, Option.some.inj (hst.symm.trans hst')]
  cases hd with
  | waits | stalls | offers | delayEnds => exact h
  | failsEarly ha =>
    refine h.deliver hst (List.take_prefix e.received _) ?_
    simp [State.writeBytes_offerByte, (State.offer_keeps _ _ _).2.1, hdc ha]
  | failsLate ha => exact h.deliver hst (List.take_prefix e.received _) (by simp [hdc ha])
  | completes ha => exact h.deliver hst (List.prefix_refl _) (by simp [hdc ha])
  | starts =>
    cases st with
    | rst l =>
      by_cases hl : s.rstLvl = true ∧ l = false
      · intro b hb; simp [State.startStep, hl] at hb
      · exact h.of_eq (by simp [State.startStep, hl])
    | _ => exact h.of_eq (by simp [State.startStep])

theorem ExecDoes.inbox {s t : State} (hd : ExecDoes s t) : t.inbox = s.inbox := by cases hd <;> simp

/-- R180: every step keeps the stream free of unknown commands. -/
theorem StepDoes.inboxOk {s t : State} (hd : StepDoes s t) (h : s.InboxOk) (hs : s.SequencerOk) : t.InboxOk := by
  by_cases hq : s.quiet
  · cases hd with
    | command i rest hr | data bytes rest hr | cutShort rest hr => rw [State.quiet, hr] at hq; cases hq
    | reset =>
      by_cases hw : s.wr.active = true
      · intro b hb; simp [hw] at hb
      · exact h.of_eq (by simp [hw])
    | accept hq hn hp hv t hx => exact h.of_eq (exec_does hx).inbox
    | still | responds | taken => exact h
    | clears => exact h.of_eq (by simp)
    | fills => exact h.of_eq (by simp)
    | sequence hq hn hp st hc t hx => exact hx.inboxOk (s := s.edgeTaken) h hs.edgeTaken hc
  · obtain ⟨r, rest, rfl, hsuf, -⟩ := hd.of_not_quiet hq
    exact h.of_suffix hsuf

/-! Legal states go on. -/

/-- Every step from a legal state leads to a legal state. -/
theorem StepDoes.legal {s t : State} (hd : StepDoes s t) (h : s.Legal) : t.Legal where
  memory := hd.memoryOk h.memory
  nibbles := hd.nibblesEqual h.memory h.nibbles
  sequencer := hd.sequencerOk h.sequencer
  fill := hd.fillOk h.memory h.fill
  inbox := hd.inboxOk h.inbox h.sequencer

theorem sequenceEdge_of_currentStep {s : State} {st : SeqStep} (e : Edge) (h : s.currentStep = some st) :
    s.sequenceEdge e = .next (s.stepEdge e st) := by
  simp [State.sequenceEdge, h]

/-- R37: the edge of a sequence finds a step. -/
theorem sequenceEdge_goes_on {s : State} (h : s.SequencerOk) (hr : s.running) (e : Edge) :
    ∃ t, s.edgeTaken.sequenceEdge e = .next t := by
  obtain ⟨st, hst⟩ := Option.isSome_iff_exists.1 (h.stepExists hr)
  exact ⟨_, sequenceEdge_of_currentStep e hst⟩

/-- R37, R180: a legal state has a next state: no fault and no refusal. -/
theorem step_goes_on {s : State} (h : s.Legal) : ∃ t, step s = .next t := by
  unfold step State.nextAction
  cases hr : readStream s.inbox with
  | waiting =>
    simp only [State.blockAction]
    cases s.edge.rstN with
    | false => exact ⟨_, rfl⟩
    | true =>
      cases hp : s.phase with
      | idle =>
        cases s.edge.cmdValid with
        | true => exact exec_next _ _
        | false => exact ⟨_, rfl⟩
      | initSeq => exact sequenceEdge_goes_on h.sequencer (.inl hp) _
      | flushSeq => exact sequenceEdge_goes_on h.sequencer (.inr hp) _
      | clearing | respond | filling => exact ⟨_, rfl⟩
  | command i rest => exact exec_next _ _
  | data bytes rest => exact ⟨_, rfl⟩
  | cutShort rest => exact ⟨_, rfl⟩
  | notACommand b => exact absurd hr (readStream_ne_notACommand h.inbox b)

end Machine
end Sys2Proof
end

section
/-! SUPPORT. Progress (spec/70_reset_and_hazards.md R240, R241): what one edge of the block is, phase by phase,
and how it lowers the rank. -/

namespace Sys2Proof.Machine

/-! One edge of the block: at `rst_n` = 0, and at `rst_n` = 1 for each phase. -/

/-- R206, R230: one edge at `rst_n` = 0. -/
theorem step_reset {s : State} (hq : s.quiet) (hn : s.edge.rstN = false) : step s = .next s.edgeTaken.resetRegisters := by
  simp [step, State.nextAction, hq, State.blockAction, hn]

section
variable {s : State} (hq : s.quiet) (hn : s.edge.rstN = true)
include hq hn

theorem step_accept (hp : s.phase = .idle) (hv : s.edge.cmdValid = true) :
    step s = exec (decodeHost s.edge.cmdWord) (s.commandTaken s.edge) := by
  simp [step, State.nextAction, hq, State.blockAction, hn, hp, hv]

theorem step_still (hp : s.phase = .idle) (hv : s.edge.cmdValid = false) : step s = .next s.edgeTaken := by
  simp [step, State.nextAction, hq, State.blockAction, hn, hp, hv]

theorem step_clearing (hp : s.phase = .clearing) : step s = .next (s.edgeTaken.clearEdge s.edge) := by
  simp [step, State.nextAction, hq, State.blockAction, hn, hp]

theorem step_filling (hp : s.phase = .filling) : step s = .next (s.edgeTaken.fillEdge s.edge) := by
  simp [step, State.nextAction, hq, State.blockAction, hn, hp]

theorem step_respond (hp : s.phase = .respond) :
    step s = .next (if s.edge.rspReady then s.edgeTaken.takeResponse else s.edgeTaken) := by
  simp [step, State.nextAction, hq, State.blockAction, hn, hp]

theorem step_running {st : SeqStep} (hst : s.currentStep = some st) : step s = .next (s.edgeTaken.stepEdge s.edge st) := by
  have hedge := sequenceEdge_of_currentStep s.edge (s := s.edgeTaken) hst
  rcases State.running_of_currentStep hst with hp | hp <;> simp [step, State.nextAction, hq, State.blockAction, hn, hp, hedge]

theorem step_running_next {t : State} (hr : s.running) (h : step s = .next t) :
    ∃ st, s.currentStep = some st ∧ t = s.edgeTaken.stepEdge s.edge st := by
  cases hst : s.currentStep with
  | some st => exact ⟨st, rfl, Host.Outcome.next.inj (h.symm.trans (step_running hq hn hst))⟩
  | none =>
    have hstop : s.edgeTaken.sequenceEdge s.edge = .fault (.noSuchStep s.stepPtr) := by
      simp [State.sequenceEdge, currentStep_edgeTaken, hst]
    rcases hr with hp | hp <;> simp [step, State.nextAction, hq, State.blockAction, hn, hp, hstop] at h

end

/-! The rank. -/

namespace State

/-- The edges the block may still spend without getting on with its next piece of work. -/
def idleEdgesLeft (s : State) : Nat := (if s.wr.active && s.wr.gap then 1 else 0) + (Config.maxStall + 1 - s.stalled)

theorem rank_eq (s : State) : s.rank = if s.unitsLeft = 0 then 0 else s.unitsLeft * (Config.maxStall + 3) + s.idleEdgesLeft := by
  simp only [rank, idleEdgesLeft, Nat.add_assoc]

theorem idleEdgesLeft_lt (s : State) : s.idleEdgesLeft < Config.maxStall + 3 := by
  unfold idleEdgesLeft
  split <;> omega

/-- Getting one piece of work done lowers the rank, whatever it does to the idle edges. -/
theorem rank_lt_of_unitsLeft {s t : State} (h : t.unitsLeft < s.unitsLeft) : t.rank < s.rank := by
  have hmul : (t.unitsLeft + 1) * (Config.maxStall + 3) ≤ s.unitsLeft * (Config.maxStall + 3) := Nat.mul_le_mul_right _ h
  have hidle := t.idleEdgesLeft_lt
  rw [Nat.succ_mul] at hmul
  rw [rank_eq, rank_eq, if_neg (show s.unitsLeft ≠ 0 by omega)]
  split <;> omega

/-- An idle edge lowers the rank too. -/
theorem rank_lt_of_idleEdgesLeft {s t : State} (hu : t.unitsLeft = s.unitsLeft) (hpos : s.unitsLeft ≠ 0)
    (h : t.idleEdgesLeft < s.idleEdgesLeft) : t.rank < s.rank := by
  rw [rank_eq, rank_eq, hu, if_neg hpos, if_neg hpos]
  omega

/-- R240: an edge on which nothing gets done counts against the idle edges left. -/
theorem idleEdgesLeft_lt_of_stall {s t : State} {e : Edge} (hpace : s.pace e = 0) (hwr : t.wr = s.wr)
    (ht : t.stalled = s.stalled + 1) : t.idleEdgesLeft < s.idleEdgesLeft := by
  have hle := (pace_eq_zero.1 hpace).2
  simp only [idleEdgesLeft, hwr, ht]
  omega

theorem unitsLeft_of_still {s : State} (h : s.phase = .idle ∨ s.phase = .respond) : s.unitsLeft = 0 := by
  rcases h with h | h <;> simp [unitsLeft, h]

theorem unitsLeft_clearing {s : State} (h : s.phase = .clearing) : s.unitsLeft = bufEntries - s.clrIdx.toNat + 1 := by
  simp [unitsLeft, h]

theorem unitsLeft_filling {s : State} (h : s.phase = .filling) : s.unitsLeft = frameEntries - s.clrIdx.toNat + 1 := by
  simp [unitsLeft, h]

theorem unitsLeft_running {s : State} (h : s.running) : s.unitsLeft = s.sequenceUnits := by
  rcases h with h | h <;> simp [unitsLeft, h]

/-- What the steps after the current one ask for. -/
def laterUnits (s : State) : Nat := ((s.sequence.drop (s.stepPtr.toNat + 1)).map stepUnits).sum

theorem laterUnits_congr {s t : State} (hp : t.phase = s.phase) (hc : t.cfg = s.cfg) (hs : t.stepPtr = s.stepPtr) :
    t.laterUnits = s.laterUnits := by
  simp [laterUnits, sequence_congr hp hc, hs]

theorem sequenceUnits_writing {s : State} (h : s.wr.active = true) :
    s.sequenceUnits = s.wr.len.toNat - s.wr.pos.toNat + 1 + s.laterUnits := by
  simp [sequenceUnits, laterUnits, h]

theorem sequenceUnits_delaying {s : State} (hw : s.wr.active = false) (hd : s.dly.active = true) :
    s.sequenceUnits = 1 + s.laterUnits := by
  simp [sequenceUnits, laterUnits, hw, hd]

theorem sequenceUnits_between {s : State} (hw : s.wr.active = false) (hd : s.dly.active = false) {st : SeqStep}
    (hst : s.currentStep = some st) : s.sequenceUnits = stepUnits st + s.laterUnits := by
  simp [sequenceUnits, laterUnits, hw, hd, hst]

/-- The current step always asks for something. -/
theorem laterUnits_lt {s : State} {st : SeqStep} (hst : s.currentStep = some st) : s.laterUnits < s.unitsLeft := by
  rw [unitsLeft_running (running_of_currentStep hst)]
  cases hw : s.wr.active with
  | true => rw [sequenceUnits_writing hw]; omega
  | false =>
    cases hd : s.dly.active with
    | true => rw [sequenceUnits_delaying hw hd]; omega
    | false => rw [sequenceUnits_between hw hd hst, stepUnits]; omega

/-- R37: a step that completes leaves the later steps to do. -/
theorem rank_lt_of_advance {s t : State} {st : SeqStep} (hst : s.currentStep = some st) (hd : st ≠ .done)
    (hphase : t.phase = s.phase) (hcfg : t.cfg = s.cfg) (hptr : t.stepPtr = s.stepPtr + 1#6) (hwr : t.wr.active = false)
    (hdly : t.dly.active = false) : t.rank < s.rank := by
  obtain ⟨st', hst', -⟩ := nextStep_exists hst hd
  have hnext : t.currentStep = some st' := (currentStep_of_advance hphase hcfg hptr hst).trans hst'
  obtain ⟨hlt, hget⟩ := List.getElem?_eq_some_iff.1 hst'
  have hlater : s.laterUnits = stepUnits st' + t.laterUnits := by
    rw [laterUnits, laterUnits, sequence_congr hphase hcfg, hptr, stepPtr_succ hst, List.drop_eq_getElem_cons hlt, hget]
    simp
  refine rank_lt_of_unitsLeft ?_
  rw [unitsLeft_running (running_of_currentStep hnext), sequenceUnits_between hwr hdly hnext, ← hlater]
  exact laterUnits_lt hst

/-- A command that ends has nothing left to do. -/
theorem rank_lt_of_still {s t : State} (hs : 0 < s.unitsLeft) (ht : t.phase = .idle ∨ t.phase = .respond) : t.rank < s.rank :=
  rank_lt_of_unitsLeft (by rw [unitsLeft_of_still ht]; exact hs)

/-! The fills. -/

/-- R240: CLEAR gets on at every edge. -/
theorem rank_clearEdge_lt {s : State} (hp : s.phase = .clearing) (e : Edge) : (s.clearEdge e).rank < s.rank := by
  have hs := unitsLeft_clearing hp
  rcases clearEdge_cases hp e with ⟨hlt, hph, hidx⟩ | ⟨-, hph, -⟩
  · have ht := unitsLeft_clearing hph
    rw [hidx] at ht
    by_cases hpace : s.pace e = 0
    · exact rank_lt_of_idleEdgesLeft (by rw [hs, ht, hpace]; rfl) (by omega)
        (idleEdgesLeft_lt_of_stall hpace (by simp) (by simp [hpace]))
    · exact rank_lt_of_unitsLeft (by omega)
  · exact rank_lt_of_still (by omega) (.inr hph)

/-- R240: the reset fill gets on at every edge. -/
theorem rank_fillEdge_lt {s : State} (hp : s.phase = .filling) (e : Edge) : (s.fillEdge e).rank < s.rank := by
  have hs := unitsLeft_filling hp
  rcases fillEdge_cases hp e with ⟨hlt, hph, hidx⟩ | ⟨-, hph⟩
  · have ht := unitsLeft_filling hph
    rw [hidx] at ht
    by_cases hpace : s.pace e = 0
    · exact rank_lt_of_idleEdgesLeft (by rw [hs, ht, hpace]; rfl) (by omega)
        (idleEdgesLeft_lt_of_stall hpace (by simp) (by simp [hpace]))
    · exact rank_lt_of_unitsLeft (by omega)
  · exact rank_lt_of_still (by omega) (.inl hph)

/-! The edges of a sequence. -/

section
variable {s : State} {e : Edge} {st : SeqStep}

/-- R234: an edge at which the block can only wait changes nothing. -/
theorem stepEdge_of_waits (h : s.waitsForWorld e = true) : s.stepEdge e st = s := by
  simp only [waitsForWorld, Bool.and_eq_true, Bool.or_eq_true, Bool.not_eq_true'] at h
  obtain ⟨-, (⟨⟨hoff, hready⟩, herr⟩ | ⟨⟨hw, hu⟩, hv⟩) | ⟨⟨hw, hd⟩, hdone⟩⟩ := h
  · simp only [Writer.offering, Bool.and_eq_true, Bool.not_eq_true'] at hoff
    obtain ⟨hu, hgap⟩ := hoff
    have hw : s.wr.active = true := by simp [Writer.unsent] at hu; exact hu.1
    simp [stepEdge, writeEdge, hw, hu, herr, offerByte, Writer.offer, hgap, hready, setWr, setStalled]
  · simp [stepEdge, writeEdge, hw, hu, hv]
  · simp [stepEdge, delayEdge, hw, hd, hdone]

/-- R164: an error answer ends the command at any time. -/
theorem stepEdge_of_error (hw : s.wr.active = true) (hv : e.txRespValid = true) (he : e.txRespErr = true) :
    (s.stepEdge e st).phase = .respond := by
  simp only [stepEdge, hw, if_true, writeEdge, hv, he, Bool.and_self]
  split <;> simp

end

end State

section
variable {s t : State} {e : Edge} {st : SeqStep}

/-- R162: an edge of a write with bytes unsent takes a byte or uses up a gap, unless the block waits for the transport. -/
theorem State.rank_offerByte_lt (hst : s.currentStep = some st) (hw : s.wr.active = true) (hu : s.wr.unsent = true)
    (hgo : s.wr.gap = true ∨ e.txReady = true) : (s.offerByte e).rank < s.rank := by
  have hrun := running_of_currentStep hst
  have hlt : s.wr.pos.toNat < s.wr.len.toNat := by simpa [Writer.unsent, hw, BitVec.lt_def] using hu
  have hlen := s.wr.len.isLt
  have hsame : (s.offerByte e).laterUnits = s.laterUnits := laterUnits_congr rfl rfl rfl
  have hs : s.unitsLeft = s.wr.len.toNat - s.wr.pos.toNat + 1 + s.laterUnits := by
    rw [unitsLeft_running hrun, sequenceUnits_writing hw]
  have ht : (s.offerByte e).unitsLeft = s.wr.len.toNat - (s.offerByte e).wr.pos.toNat + 1 + s.laterUnits := by
    rw [unitsLeft_running (s := s.offerByte e) hrun, sequenceUnits_writing ((offer_keeps _ _ _).1.trans hw), hsame]
    simp [(offer_keeps s.wr e s.stalled).2.2.1]
  cases hgap : s.wr.gap with
  | true =>
    refine rank_lt_of_idleEdgesLeft ?_ (by omega) ?_
    · rw [ht, hs]; simp [Writer.offer, hgap]
    · simp only [idleEdgesLeft, offerByte_wr, offerByte_stalled, Writer.offer, hgap, hw, if_true, leavesGap, Bool.true_and,
        Bool.and_eq_true, decide_eq_true_eq]
      split <;> omega
  | false =>
    have hready : e.txReady = true := by simpa [hgap] using hgo
    have hpos : (s.offerByte e).wr.pos.toNat = s.wr.pos.toNat + 1 := by
      simp [Writer.offer, hgap, hready]
      omega
    exact rank_lt_of_unitsLeft (by omega)

/-- R240: a step that starts has got something done. -/
theorem State.rank_startStep_lt (hst : s.currentStep = some st) (hw : s.wr.active = false) (hd : s.dly.active = false) :
    ((s.paced e).startStep e st).rank < s.rank := by
  have hrun := running_of_currentStep hst
  have hs : s.unitsLeft = st.writeLen + 2 + s.laterUnits := by
    rw [unitsLeft_running hrun, sequenceUnits_between hw hd hst, stepUnits]
  rcases SeqStep.kinds (currentStep_wellFormed hst) with hlen | hi | ⟨n, rfl⟩ | rfl
  · obtain ⟨hp, hptr, -, -, -, hwr, -⟩ := (s.paced e).startStep_write e hlen
    have hfit : (BitVec.ofNat 14 st.writeLen).toNat = st.writeLen :=
      Nat.mod_eq_of_lt (SeqStep.writeLen_lt (currentStep_wellFormed hst))
    refine rank_lt_of_unitsLeft ?_
    rw [unitsLeft_running (by rw [running, hp]; exact hrun), sequenceUnits_writing (by rw [hwr]),
      laterUnits_congr hp (by simp) hptr, hwr, hs]
    have hl : (s.paced e).laterUnits = s.laterUnits := laterUnits_congr rfl rfl rfl
    simp only [hfit, hl, BitVec.toNat_ofNat]
    omega
  · obtain ⟨hp, hptr, -, hwr, hdly, -⟩ := (s.paced e).startStep_instant e hi
    exact rank_lt_of_advance hst (by rintro rfl; cases hi) hp (by simp) hptr (by rw [hwr]; exact hw) (by rw [hdly]; exact hd)
  · refine rank_lt_of_unitsLeft ?_
    have ht := sequenceUnits_delaying (s := (s.paced e).startStep e (.dly n)) hw rfl
    have hl : ((s.paced e).startStep e (.dly n)).laterUnits = s.laterUnits := laterUnits_congr rfl rfl rfl
    rw [unitsLeft_running (s := (s.paced e).startStep e (.dly n)) hrun, ht, hl, hs]
    omega
  · refine rank_lt_of_still (by omega) (.inr ?_)
    rcases hrun with hp | hp
    · simp [startStep, finishSequence, hp]
    · simp [startStep, finishSequence, hp]

/-- R240, R241: every edge of a sequence lowers the rank, but those that wait for the world and those that bring an error answer.  The
latter end the command (`State.stepEdge_of_error`). -/
theorem EdgeDoes.rank_lt (hd : EdgeDoes e s st t) (h : s.SequencerOk) (hst : s.currentStep = some st)
    (hwait : s.waitsForWorld e = false) (herr : ¬ (s.wr.active = true ∧ e.txRespValid = true ∧ e.txRespErr = true)) :
    t.rank < s.rank := by
  have hrun := State.running_of_currentStep hst
  have hpos := Nat.zero_lt_of_lt (State.laterUnits_lt hst)
  have hphase : (s.phase == .initSeq || s.phase == .flushSeq) = true := by simpa using hrun
  rw [State.waitsForWorld, hphase, Bool.true_and] at hwait
  cases hd with
  | waits hx =>
    rcases hx with ⟨ha, hu, hv⟩ | ⟨ha, hd, hv⟩
    · simp [ha, hu, hv] at hwait
    · simp [ha, hd, hv] at hwait
  | stalls ha hd hpace =>
    exact State.rank_lt_of_idleEdgesLeft rfl hpos.ne' (State.idleEdgesLeft_lt_of_stall hpace rfl (by simp [hpace]))
  | offers ha hu =>
    refine State.rank_offerByte_lt hst ha hu ?_
    by_contra hno
    simp_all [Writer.offering]
  | failsEarly ha hu hv he => exact absurd ⟨ha, hv, he⟩ herr
  | failsLate ha hu hv he => exact absurd ⟨ha, hv, he⟩ herr
  | completes ha =>
    obtain ⟨st', hst', hlen, -⟩ := h.writing ha
    obtain rfl : st = st' := Option.some.inj (hst.symm.trans hst')
    exact State.rank_lt_of_advance hst (by rintro rfl; cases hlen) (by simp) (by simp) (by simp) (by simp)
      (by simpa using h.write_excludes_delay ha)
  | delayEnds ha hd =>
    obtain rfl : st = .dly s.dly.ms := Option.some.inj (hst.symm.trans (h.delaying hd))
    exact State.rank_lt_of_advance hst (by simp) rfl rfl rfl ha rfl
  | starts ha hd => exact State.rank_startStep_lt hst ha hd

/-- R240, R241: one edge of a running sequence. -/
theorem State.SequencerOk.stepEdge_progress (h : s.SequencerOk) (hst : s.currentStep = some st) (e : Edge) :
    (s.waitsForWorld e = true → (s.stepEdge e st).rank = s.rank ∧ (s.stepEdge e st).phase = s.phase) ∧
    (s.waitsForWorld e = false → (s.stepEdge e st).rank < s.rank) := by
  refine ⟨fun hw => by simp [stepEdge_of_waits hw], fun hw => ?_⟩
  by_cases herr : s.wr.active = true ∧ e.txRespValid = true ∧ e.txRespErr = true
  · obtain ⟨ha, hv, he⟩ := herr
    exact rank_lt_of_still (Nat.zero_lt_of_lt (laterUnits_lt hst)) (.inr (stepEdge_of_error ha hv he))
  · exact (stepEdge_does e s st).rank_lt h hst hw herr

/-- R240, R241: one edge of a block that has work to do. -/
theorem step_progress (h : s.SequencerOk) (hq : s.quiet) (hn : s.edge.rstN = true) (hwork : s.working) (hs : step s = .next t) :
    (s.waitsForWorld s.edge = true → t.rank = s.rank ∧ t.phase = s.phase) ∧
    (s.waitsForWorld s.edge = false → t.rank < s.rank) := by
  cases hp : s.phase with
  | idle => exact absurd hp hwork.1
  | respond => exact absurd hp hwork.2
  | clearing =>
    obtain rfl := Host.Outcome.next.inj (hs.symm.trans (step_clearing hq hn hp))
    exact ⟨fun hw => by simp [State.waitsForWorld, hp] at hw, fun _ => State.rank_clearEdge_lt (s := s.edgeTaken) hp s.edge⟩
  | filling =>
    obtain rfl := Host.Outcome.next.inj (hs.symm.trans (step_filling hq hn hp))
    exact ⟨fun hw => by simp [State.waitsForWorld, hp] at hw, fun _ => State.rank_fillEdge_lt (s := s.edgeTaken) hp s.edge⟩
  | initSeq | flushSeq =>
    obtain ⟨st, hst⟩ := Option.isSome_iff_exists.1 (h.stepExists (by simp [hp]))
    obtain rfl := Host.Outcome.next.inj (hs.symm.trans (step_running hq hn hst))
    rw [← hp]
    exact h.edgeTaken.stepEdge_progress hst s.edge

end

/-- Settles O50: a legal state has a next state (`step_goes_on`), which is legal (`StepDoes.legal`); the controller only uses up its
stream (`StepDoes.of_not_quiet`), and a working block lowers its rank or waits (`step_progress`). -/
theorem legalStatesNeverStop : Obligations.LegalStatesNeverStop := by
  intro s h
  obtain ⟨t, ht⟩ := step_goes_on h
  refine ⟨t, ht, (step_does ht).legal h, fun hq => ?_, fun hq hn hwork => step_progress h.sequencer hq hn hwork ht⟩
  obtain ⟨r, rest, rfl, -, hlt⟩ := (step_does ht).of_not_quiet hq
  exact ⟨rfl, rfl, hlt⟩

end Sys2Proof.Machine
end

section
/-! SUPPORT. What each register's changes are tied to (spec/10_state.md R29, R31, R37), what the trace gains (R236), and that
the block does not read the controller (R40). -/

namespace Sys2Proof.Machine

section
variable {e : Edge} {s t : State} {st : SeqStep}

/-! FRONT, INIT_DONE, STEP and the trace at an edge of a sequence. -/

/-- R105: only SWAP toggles FRONT. -/
theorem EdgeDoes.front (hd : EdgeDoes e s st t) : t.front = s.front ∨ st = .swap ∧ t.front = s.front ^^^ 1#1 := by
  cases hd with
  | starts => cases st <;> simp [State.startStep]
  | _ => simp

/-- R129, R140: only INIT's DONE sets INIT_DONE. -/
theorem EdgeDoes.initDone (hd : EdgeDoes e s st t) :
    t.initDone = s.initDone ∨ t.initDone = true ∧ s.phase = .initSeq ∧ st = .done := by
  cases hd with
  | starts =>
    cases st with
    | done => cases hp : s.phase <;> simp [State.startStep, State.finishSequence, hp]
    | _ => simp [State.startStep]
  | _ => simp

/-- R37: STEP stays or moves by one. -/
theorem EdgeDoes.stepPtr (hd : EdgeDoes e s st t) : t.stepPtr = s.stepPtr ∨ t.stepPtr = s.stepPtr + 1#6 := by
  cases hd with
  | starts => cases st <;> simp [State.startStep]
  | _ => simp

/-- R13: a sequence makes no `Cmd` event. -/
theorem EdgeDoes.trace (hd : EdgeDoes e s st t) : ∃ added, t.trace = s.trace ++ added ∧ ∀ w, Event.cmd w ∉ added := by
  have hnone (u : State) (h : u.trace = s.trace) : ∃ added, u.trace = s.trace ++ added ∧ ∀ w, Event.cmd w ∉ added :=
    ⟨[], by simp [h]⟩
  cases hd with
  | waits | stalls | offers => exact hnone _ rfl
  | failsEarly => exact ⟨[.wr (s.offerByte e).wr.dc ((s.offerByte e).writeBytes st) false], rfl, by simp⟩
  | failsLate => exact ⟨[.wr s.wr.dc (s.writeBytes st) false], rfl, by simp⟩
  | completes => exact ⟨[.wr s.wr.dc (s.writeBytes st) true], rfl, by simp⟩
  | delayEnds => exact ⟨[.dly s.dly.ms], rfl, by simp⟩
  | starts =>
    cases st with
    | rst l => exact ⟨if s.rstLvl = l then [] else [.rst l], State.setRstLine_trace (s.paced e) l, by intro w; split <;> simp⟩
    | cmd c => exact ⟨if s.dcLvl = false then [] else [.dc false], State.setDcLine_trace (s.paced e) false, by intro w; split <;> simp⟩
    | dat ds => exact ⟨if s.dcLvl = true then [] else [.dc true], State.setDcLine_trace (s.paced e) true, by intro w; split <;> simp⟩
    | dc l => exact ⟨if s.dcLvl = l then [] else [.dc l], State.setDcLine_trace (s.paced e) l, by intro w; split <;> simp⟩
    | swap => exact ⟨[.swap], rfl, by simp⟩
    | dly | payload => exact hnone _ rfl
    | done => exact hnone _ (by simp [State.startStep])

/-! The same for an instruction. -/

theorem ExecDoes.front (hd : ExecDoes s t) : t.front = s.front := by cases hd <;> simp

theorem ExecDoes.cfg (hd : ExecDoes s t) : t.cfg = s.cfg := by cases hd <;> simp

theorem ExecDoes.trace (hd : ExecDoes s t) : t.trace = s.trace := by cases hd <;> simp

/-- R123: only the acceptance of INIT clears INIT_DONE. -/
theorem ExecDoes.initDone (hd : ExecDoes s t) :
    t.initDone = s.initDone ∨ t.initDone = false ∧ s.phase = .idle ∧ t.phase = .initSeq := by
  cases hd <;> simp_all

/-- R123, R140: only the acceptance of INIT or FLUSH sets STEP. -/
theorem ExecDoes.stepPtr (hd : ExecDoes s t) :
    t.stepPtr = s.stepPtr ∨ t.stepPtr = 0#6 ∧ s.phase = .idle ∧ (t.phase = .initSeq ∨ t.phase = .flushSeq) := by
  cases hd <;> simp_all

end

/-! A step of the machine. -/

/-- Settles O38: `EdgeDoes.front` for the edges of a sequence; no instruction writes FRONT (`ExecDoes.front`). -/
theorem frontChangesOnlyBySwap : Obligations.FrontChangesOnlyBySwap := by
  intro s t h hne
  cases step_does h with
  | sequence hq hn hp st hc t hx =>
    obtain ⟨rfl, hf⟩ := hx.front.resolve_left hne
    exact .inl ⟨hc, hf⟩
  | reset hq hn => exact .inr ⟨hn, rfl⟩
  | command i rest hr t hx => exact absurd (exec_does hx).front hne
  | accept hq hn hp hv t hx => exact absurd (exec_does hx).front hne
  | data => exact absurd (by simp [State.takeData_eq]) hne
  | _ => exact absurd (by simp) hne

/-- Settles O39: `EdgeDoes.initDone` for the edges of a sequence, `ExecDoes.initDone` for an instruction. -/
theorem initDoneChangesOnlyByInit : Obligations.InitDoneChangesOnlyByInit := by
  intro s t h hne
  cases step_does h with
  | sequence hq hn hp st hc t hx =>
    obtain ⟨hset, hph, rfl⟩ := hx.initDone.resolve_left hne
    exact .inl ⟨hset, hph, hc⟩
  | reset hq hn => exact .inr (.inr ⟨rfl, hn⟩)
  | command i rest hr t hx => exact .inr (.inl ((exec_does hx).initDone.resolve_left hne))
  | accept hq hn hp hv t hx => exact .inr (.inl ((exec_does hx).initDone.resolve_left hne))
  | data => exact absurd (by simp [State.takeData_eq]) hne
  | _ => exact absurd (by simp) hne

/-- Settles O41: `EdgeDoes.stepPtr` for the edges of a sequence, `ExecDoes.stepPtr` for an instruction. -/
theorem stepPointerMovesByOne : Obligations.StepPointerMovesByOne := by
  intro s t h
  cases step_does h with
  | sequence hq hn hp st hc t hx => exact hx.stepPtr.imp_right fun hptr => .inl ⟨hptr, hp⟩
  | reset hq hn => exact .inr (.inr (.inr ⟨rfl, hn⟩))
  | command i rest hr t hx => exact (exec_does hx).stepPtr.imp_right fun hptr => .inr (.inl hptr)
  | accept hq hn hp hv t hx => exact (exec_does hx).stepPtr.imp_right fun hptr => .inr (.inl hptr)
  | data => exact .inl (by simp [State.takeData_eq])
  | _ => exact .inl (by simp)

/-- R10: no step changes the configuration. -/
theorem StepDoes.cfg {s t : State} (hd : StepDoes s t) : t.cfg = s.cfg := by
  cases hd with
  | sequence hq hn hp st hc t hx => exact hx.keeps.1
  | command i rest hr t hx => exact (exec_does hx).cfg
  | accept hq hn hp hv t hx => exact (exec_does hx).cfg
  | data => simp [State.takeData_eq]
  | _ => simp

/-- R13: what a step adds to the trace. -/
theorem StepDoes.trace {s t : State} (hd : StepDoes s t) : ∃ added, t.trace = s.trace ++ added ∧
    ∀ w, Event.cmd w ∈ added → s.phase = .idle ∧ s.edge.cmdValid = true ∧ s.edge.cmdWord = w := by
  have hnone (h : t.trace = s.trace) : ∃ added, t.trace = s.trace ++ added ∧
      ∀ w, Event.cmd w ∈ added → s.phase = .idle ∧ s.edge.cmdValid = true ∧ s.edge.cmdWord = w := ⟨[], by simp [h]⟩
  cases hd with
  | accept hq hn hp hv t hx =>
    exact ⟨[.cmd s.edge.cmdWord], (exec_does hx).trace, fun w hw => ⟨hp, hv, by simpa using (List.mem_singleton.1 hw).symm⟩⟩
  | sequence hq hn hp st hc t hx =>
    obtain ⟨added, ht, hcmd⟩ := hx.trace
    exact ⟨added, ht, fun w hw => absurd hw (hcmd w)⟩
  | reset =>
    refine ⟨(if s.rstLvl = true then [] else [.rst true]) ++ (if s.dcLvl = true then [.dc false] else []),
      (State.resetRegisters_trace s.edgeTaken).trans (List.append_assoc _ _ _), fun w hw => ?_⟩
    cases hr : s.rstLvl <;> cases hdc : s.dcLvl <;> simp [hr, hdc] at hw
  | taken => exact ⟨_, rfl, by simp⟩
  | command i rest hr t hx => exact hnone (exec_does hx).trace
  | data => exact hnone (by simp [State.takeData_eq])
  | _ => exact hnone (by simp)

/-- Settles O42, from what a step adds to the trace and that it keeps the configuration. -/
theorem commandsAreTakenOnlyWhenIdle : Obligations.CommandsAreTakenOnlyWhenIdle :=
  fun _ _ h => ⟨(step_does h).cfg, (step_does h).trace⟩

/-! R40: the controller's registers are not read. -/

namespace State

section
variable (s : State) (r : CtrlRegs)

theorem setCtrl_ite {c : Prop} [Decidable c] (a b : State) : (if c then a else b).setCtrl r = if c then a.setCtrl r else b.setCtrl r :=
  apply_ite (State.setCtrl · r) c a b

theorem setDcLine_setCtrl (l : Bool) : (s.setCtrl r).setDcLine l = (s.setDcLine l).setCtrl r := by
  simp only [setDcLine, setCtrl_ite]
  rfl

theorem setRstLine_of_same {s : State} {l : Bool} (h : s.rstLvl = l) : s.setRstLine l = s := if_pos h

theorem setRstLine_of_change {s : State} {l : Bool} (h : s.rstLvl ≠ l) : s.setRstLine l =
    if l then (s.setRstLvl true).log (.rst true) else ((s.setRstLvl false).log (.rst false)).ctrlUnknown := if_neg h

/-- A falling reset line makes the registers unknown, whatever they were (log entry 6). -/
theorem setRstLine_setCtrl (l : Bool) : ∃ r', (s.setCtrl r).setRstLine l = (s.setRstLine l).setCtrl r' := by
  by_cases hsame : s.rstLvl = l
  · rw [setRstLine_of_same hsame, setRstLine_of_same (s := s.setCtrl r) hsame]
    exact ⟨r, rfl⟩
  · rw [setRstLine_of_change hsame, setRstLine_of_change (s := s.setCtrl r) hsame]
    cases l with
    | true => exact ⟨r, rfl⟩
    | false => exact ⟨Config.freeCtrl s.tick, rfl⟩

theorem setPixel_setCtrl (x y : Coord) (g : Gray) : (s.setCtrl r).setPixel x y g = (s.setPixel x y g).setCtrl r := by
  simp only [setPixel, setCtrl_ite]
  rfl

theorem finishSequence_setCtrl : (s.setCtrl r).finishSequence = s.finishSequence.setCtrl r := by
  simp only [finishSequence, setCtrl_phase]
  cases s.phase <;> rfl

theorem clearEdge_setCtrl (e : Edge) : (s.setCtrl r).clearEdge e = (s.clearEdge e).setCtrl r := by
  simp only [clearEdge, setCtrl_ite]
  rfl

theorem fillEdge_setCtrl (e : Edge) : (s.setCtrl r).fillEdge e = (s.fillEdge e).setCtrl r := by
  simp only [fillEdge, setCtrl_ite]
  rfl

theorem writeEdge_setCtrl (e : Edge) (st : SeqStep) : (s.setCtrl r).writeEdge e st = (s.writeEdge e st).setCtrl r := by
  simp only [writeEdge, setCtrl_ite]
  rfl

theorem delayEdge_setCtrl (e : Edge) : (s.setCtrl r).delayEdge e = (s.delayEdge e).setCtrl r := by
  simp only [delayEdge, setCtrl_ite]
  rfl

theorem startStep_setCtrl (e : Edge) (st : SeqStep) : ∃ r', (s.setCtrl r).startStep e st = (s.startStep e st).setCtrl r' := by
  cases st with
  | rst l =>
    obtain ⟨r', h⟩ := setRstLine_setCtrl s r l
    exact ⟨r', congrArg advance h⟩
  | cmd | dat | dc => exact ⟨r, by simp only [startStep, setDcLine_setCtrl]; rfl⟩
  | dly | swap | payload => exact ⟨r, rfl⟩
  | done => exact ⟨r, finishSequence_setCtrl s r⟩

/-! The four branches of an edge inside a sequence step. -/

theorem stepEdge_write {s : State} {e : Edge} {st : SeqStep} (hw : s.wr.active = true) : s.stepEdge e st = s.writeEdge e st := if_pos hw

theorem stepEdge_delay {s : State} {e : Edge} {st : SeqStep} (hw : ¬ s.wr.active = true) (hd : s.dly.active = true) :
    s.stepEdge e st = s.delayEdge e := (if_neg hw).trans (if_pos hd)

theorem stepEdge_stall {s : State} {e : Edge} {st : SeqStep} (hw : ¬ s.wr.active = true) (hd : ¬ s.dly.active = true)
    (hp : s.pace e = 0) : s.stepEdge e st = s.paced e := (if_neg hw).trans ((if_neg hd).trans (if_pos hp))

theorem stepEdge_start {s : State} {e : Edge} {st : SeqStep} (hw : ¬ s.wr.active = true) (hd : ¬ s.dly.active = true)
    (hp : ¬ s.pace e = 0) : s.stepEdge e st = (s.paced e).startStep e st := (if_neg hw).trans ((if_neg hd).trans (if_neg hp))

theorem stepEdge_setCtrl (e : Edge) (st : SeqStep) : ∃ r', (s.setCtrl r).stepEdge e st = (s.stepEdge e st).setCtrl r' := by
  by_cases hw : s.wr.active = true
  · rw [stepEdge_write hw, stepEdge_write (s := s.setCtrl r) hw]
    exact ⟨r, writeEdge_setCtrl s r e st⟩
  by_cases hd : s.dly.active = true
  · rw [stepEdge_delay hw hd, stepEdge_delay (s := s.setCtrl r) hw hd]
    exact ⟨r, delayEdge_setCtrl s r e⟩
  by_cases hp : s.pace e = 0
  · rw [stepEdge_stall hw hd hp, stepEdge_stall (s := s.setCtrl r) hw hd hp]
    exact ⟨r, rfl⟩
  · rw [stepEdge_start hw hd hp, stepEdge_start (s := s.setCtrl r) hw hd hp]
    exact startStep_setCtrl (s.paced e) r e st

/-- A write that a reset cuts off makes the registers unknown, whatever they were (I4). -/
theorem resetRegisters_setCtrl : ∃ r', (s.setCtrl r).resetRegisters = s.resetRegisters.setCtrl r' := by
  obtain ⟨r₁, hcut⟩ : ∃ r₁, (if (s.setCtrl r).wr.active then (s.setCtrl r).ctrlUnknown else s.setCtrl r) =
      (if s.wr.active then s.ctrlUnknown else s).setCtrl r₁ := by
    rw [setCtrl_wr]
    cases s.wr.active with
    | true => exact ⟨Config.freeCtrl s.tick, rfl⟩
    | false => exact ⟨r, rfl⟩
  obtain ⟨r₂, hrst⟩ := setRstLine_setCtrl (if s.wr.active then s.ctrlUnknown else s) r₁ true
  refine ⟨r₂, ?_⟩
  simp only [resetRegisters, hcut, hrst, setDcLine_setCtrl]
  rfl

theorem whenReady_setCtrl {s a t : State} (r : CtrlRegs) (h : s.whenReady a = .next t) :
    (s.setCtrl r).whenReady (a.setCtrl r) = .next (t.setCtrl r) := by
  rw [whenReady_eq] at h ⊢
  rw [← Host.Outcome.next.inj h, setCtrl_ite, setCtrl_phase]

end

end State

/-- R40, R41: a host command does not read the controller's registers, and a controller command only writes them. -/
theorem exec_setCtrl {i : Instr} {s t : State} (r : CtrlRegs) (h : exec i s = .next t) :
    ∃ r', exec i (s.setCtrl r) = .next (t.setCtrl r') := by
  cases i with
  | setpx x y g =>
    refine ⟨r, ?_⟩
    rw [← State.whenReady_setCtrl r h, exec, execSetpx]
    congr 1
    exact congrArg (State.respond · 0b00#2 false) (State.setPixel_setCtrl (s.setCur ⟨0b00#2, x, y, g⟩) r x y g)
  | clear | init | flush => exact ⟨r, State.whenReady_setCtrl r h⟩
  | _ =>
    obtain rfl := Host.Outcome.next.inj h
    exact ⟨_, rfl⟩

/-- Settles O44: each kind of edge does the same with other registers there. -/
theorem blockNeverReadsTheController : Obligations.BlockNeverReadsTheController := by
  intro s t r hq h
  have hq' : (s.setCtrl r).quiet := hq
  have hsame : (s.setCtrl r).edge = s.edge := rfl
  cases hn : s.edge.rstN with
  | false =>
    obtain rfl := Host.Outcome.next.inj (h.symm.trans (step_reset hq hn))
    rw [step_reset hq' hn]
    obtain ⟨r', hr⟩ := State.resetRegisters_setCtrl s.edgeTaken r
    exact ⟨r', congrArg _ hr⟩
  | true =>
    cases hp : s.phase with
    | idle =>
      cases hv : s.edge.cmdValid with
      | true =>
        rw [step_accept hq hn hp hv] at h
        rw [step_accept hq' hn hp hv]
        exact exec_setCtrl (s := s.commandTaken s.edge) r h
      | false =>
        obtain rfl := Host.Outcome.next.inj (h.symm.trans (step_still hq hn hp hv))
        exact ⟨r, step_still hq' hn hp hv⟩
    | clearing =>
      obtain rfl := Host.Outcome.next.inj (h.symm.trans (step_clearing hq hn hp))
      rw [step_clearing hq' hn hp]
      exact ⟨r, congrArg _ (State.clearEdge_setCtrl s.edgeTaken r s.edge)⟩
    | filling =>
      obtain rfl := Host.Outcome.next.inj (h.symm.trans (step_filling hq hn hp))
      rw [step_filling hq' hn hp]
      exact ⟨r, congrArg _ (State.fillEdge_setCtrl s.edgeTaken r s.edge)⟩
    | respond =>
      obtain rfl := Host.Outcome.next.inj (h.symm.trans (step_respond hq hn hp))
      rw [step_respond hq' hn hp]
      exact ⟨r, congrArg _ (State.setCtrl_ite r s.edgeTaken.takeResponse s.edgeTaken).symm⟩
    | initSeq | flushSeq =>
      obtain ⟨st, hst, rfl⟩ := step_running_next hq hn (by simp [State.running, hp]) h
      rw [step_running (s := s.setCtrl r) hq' hn hst]
      obtain ⟨r', hr⟩ := State.stepEdge_setCtrl s.edgeTaken r s.edge st
      exact ⟨r', congrArg _ hr⟩

end Sys2Proof.Machine
end

section
/-! SUPPORT. One edge in IDLE and in RESPOND, commands outside IDLE, the output ports, and the reset state
(spec/10_state.md R22 to R27, R33; spec/70_reset_and_hazards.md R209, R230). -/

namespace Sys2Proof.Machine

/-- Settles O17: a host command is `State.whenReady` of its effect, which outside IDLE is no effect. -/
theorem hostCommandWaitsUnlessIdle : Obligations.HostCommandWaitsUnlessIdle := by
  intro s x y g hp
  have hwaits (accepted : State) : s.whenReady accepted = .next s := by rw [State.whenReady_eq, if_neg hp]
  exact ⟨hwaits _, hwaits _, hwaits _, hwaits _⟩

theorem State.edge_of_coming {s : State} {e : Edge} {es : List Edge} (h : s.coming = e :: es) : s.edge = e := by
  simp [State.edge, h]

/-- What a step uses up: one edge and one step number. -/
theorem State.edgeTaken_eq {s : State} {e : Edge} {es : List Edge} (h : s.coming = e :: es) :
    s.edgeTaken = { s with coming := es, tick := s.tick + 1 } := by
  simp [State.edgeTaken, State.ticked, State.setComing, State.setTick, h]

/-- Settles O32. -/
theorem respondOnlyAnswers : Obligations.RespondOnlyAnswers := by
  intro s e es hq hcoming hn hp
  have hedge := State.edge_of_coming hcoming
  have hstep := step_respond hq (hedge ▸ hn) hp
  rw [hedge, State.edgeTaken_eq hcoming] at hstep
  constructor <;> intro hready <;> rw [hready] at hstep <;> exact hstep

/-- Settles O59. -/
theorem stepRunsTheHostCommand : Obligations.StepRunsTheHostCommand := by
  intro s e es hq hcoming hn hp
  obtain rfl := State.edge_of_coming hcoming
  refine ⟨fun hv => ?_, fun hv => ?_⟩
  · rw [step_accept hq hn hp hv, State.commandTaken, State.edgeTaken_eq hcoming]
    rfl
  · rw [step_still hq hn hp hv, State.edgeTaken_eq hcoming]

/-- R162: when a byte is on offer. -/
theorem Writer.offering_iff (w : Writer) :
    w.offering = true ↔ w.active = true ∧ w.pos.toNat < w.len.toNat ∧ w.gap = false := by
  simp [Writer.offering, Writer.unsent, BitVec.lt_def, and_assoc]

/-- Settles O33: each port is read off `State.ports`. -/
theorem portsFollowTheRegisters : Obligations.PortsFollowTheRegisters := by
  intro s rstN
  have hvalid : (s.ports rstN).txValid = true ↔ rstN = true ∧ s.wr.offering = true := by simp [State.ports]
  refine ⟨rfl, by simp [State.ports, State.busy], rfl, rfl, rfl, rfl, rfl, rfl, by simp [State.ports, State.cmdReady],
    by simp [State.ports, State.rspValid], by simp [State.ports], by rw [hvalid, Writer.offering_iff], fun htx => ?_⟩
  obtain ⟨hrst, hoff⟩ := hvalid.1 htx
  refine ⟨fun st hst => by simp [State.ports, hrst, hoff, State.offeredByte, hst], by simp [State.ports, hrst, hoff, Writer.atLast]⟩

/-- Settles O35: an unlisted entry reads 0x00, and no entry is listed. -/
theorem resetStateIsTheTable : Obligations.ResetStateIsTheTable :=
  ⟨fun _ _ => rfl, rfl, rfl, rfl, rfl, rfl, rfl, rfl, rfl, rfl, rfl, rfl, rfl, rfl, rfl⟩

end Sys2Proof.Machine
end

section
/-! SUPPORT. The frame store as memory (spec/20_memory.md): where an entry is held (R61), the payload (R65), and that SETPX and
CLEAR write the back buffer only (R72, R73, R101). -/

namespace Sys2Proof.Machine

/-- R102: the signed bounds test `0 <=s x <s n`, for a bound `n` that is not negative, tests the unsigned value. -/
theorem sle_zero_and_slt_iff {w : Nat} {x n : BitVec w} (hn : 2 * n.toNat < 2 ^ w) :
    (0#w).sle x = true ∧ x.slt n = true ↔ x.toNat < n.toNat := by
  have hx := x.isLt
  rw [BitVec.sle_iff_toInt_le, BitVec.slt_iff_toInt_lt, BitVec.toInt_zero, BitVec.toInt_eq_toNat_of_lt hn, BitVec.toInt_eq_toNat_cond]
  split <;> omega

/-- R102: in range, both coordinates are what their unsigned values say. -/
theorem inRange_iff_toNat {x y : Coord} : inRange x y = true ↔ x.toNat < 128 ∧ y.toNat < 64 := by
  have hx : (0#32).sle x = true ∧ x.slt 128#32 = true ↔ x.toNat < 128 := sle_zero_and_slt_iff (by decide)
  have hy : (0#32).sle y = true ∧ y.slt 64#32 = true ↔ y.toNat < 64 := sle_zero_and_slt_iff (by decide)
  simp only [inRange, Bool.and_eq_true, hx, and_assoc, hy]

/-- Settles O9: the entry index of a pixel in range, as a number, is `y*128 + x` with `x < 128`, which gives back both coordinates. -/
theorem entryIndexIsRowMajor : Obligations.EntryIndexIsRowMajor := by
  intro x y x' y' h h'
  obtain ⟨hx, hy⟩ := inRange_iff_toNat.1 h
  obtain ⟨hx', hy'⟩ := inRange_iff_toNat.1 h'
  have hidx := State.entryIndex_toNat hx hy
  refine ⟨hidx, rfl, fun heq => ?_⟩
  have heq' : y.toNat * 128 + x.toNat = y'.toNat * 128 + x'.toNat := by
    rw [← hidx, heq, State.entryIndex_toNat hx' hy']
  exact ⟨BitVec.eq_of_toNat_eq (by omega), BitVec.eq_of_toNat_eq (by omega)⟩

/-- R73: a write of a value an address already holds changes nothing, the canonical form being one per contents. -/
theorem Memory.write_of_read_eq {m : Memory} (h : m.wf = true) {a : FrameAddr} {v : Byte} (hv : m.read a = v) : m.write a v = m := by
  refine Memory.ext_read (Memory.wf_write h a v) h fun b => ?_
  by_cases hb : b = a
  · rw [hb, Memory.read_write_self h, hv]
  · exact Memory.read_write_other m v hb

theorem Memory.write_write_self {m : Memory} (h : m.wf = true) (a : FrameAddr) (v : Byte) : (m.write a v).write a v = m.write a v :=
  Memory.write_of_read_eq (Memory.wf_write h a v) (Memory.read_write_self h a v)

/-- Settles O11: out of range neither write does anything; in range the second finds its value in place. -/
theorem setPixelIsIdempotent : Obligations.SetPixelIsIdempotent := by
  intro s x y g hm
  by_cases hin : inRange x y = true
  · have hset (u : State) : u.setPixel x y g = u.setMem (u.mem.write (frameAddr u.back (entryIndex x y)) (entryOf g)) := if_pos hin
    rw [hset s, hset]
    exact congrArg s.setMem (Memory.write_write_self hm _ _)
  · have hset : s.setPixel x y g = s := if_neg hin
    rw [hset, hset]

/-- An entry is read from the frame store alone. -/
theorem State.entry_of_mem {s t : State} (h : t.mem = s.mem) (b : BitVec 1) (i : EntryIndex) : t.entry b i = s.entry b i := by
  rw [State.entry, State.entry, h]

/-- R101, R103: SETPX is the only instruction that writes an entry, and it writes the back buffer. -/
theorem ExecDoes.entry_front {s t : State} (hd : ExecDoes s t) (i : EntryIndex) : t.entry s.front i = s.entry s.front i := by
  cases hd with
  | setpx hp x y g =>
    exact State.setPixel_entry_other (s.setCur ⟨0b00#2, x, y, g⟩) x y g s.front i (.inl (State.back_ne_front s).symm)
  | _ => rfl

/-- R101, R104: an edge of CLEAR fills the back buffer. -/
theorem State.clearEdge_entry_front {s : State} (hm : s.MemoryOk) (e : Edge) (i : EntryIndex) :
    (s.clearEdge e).entry s.front i = s.entry s.front i := by
  rw [State.clearEdge_spec hm, if_neg fun h => State.back_ne_front s h.1.symm]

/-- Settles O43: only SETPX and CLEAR write entries outside the reset fill, and both write the back buffer. -/
theorem frontBufferIsNeverWritten : Obligations.FrontBufferIsNeverWritten := by
  intro s t hm hf hs i
  cases step_does hs with
  | command j rest hr t hx => exact (exec_does hx).entry_front i
  | accept hq hn hp hv t hx => exact (exec_does hx).entry_front i
  | data bytes rest hr => exact State.entry_of_mem (by rw [State.takeData_eq]; rfl) _ _
  | cutShort | still | responds | taken => rfl
  | reset => exact State.entry_of_mem (by simp) _ _
  | clears => exact State.clearEdge_entry_front (s := s.edgeTaken) hm _ i
  | fills hq hn hp => exact absurd hp hf
  | sequence hq hn hp st hc t hx =>
    obtain ⟨-, hmem, -⟩ := hx.keeps
    exact State.entry_of_mem hmem _ _

/-- Settles O45: a step writes entries in a row, or none (`StepDoes.mem_fill`), and a fill keeps the form. -/
theorem memoryStaysCanonical : Obligations.MemoryStaysCanonical := fun _ _ hm hs => (step_does hs).memoryOk hm

/-- Settles O31: the payload is the write of the PAYLOAD step, whose length and bytes are known (`State.writeByte_eq`). -/
theorem payloadIsTheFrontBuffer : Obligations.PayloadIsTheFrontBuffer := by
  intro s
  refine ⟨State.writeBytes_length s .payload, fun i => ?_⟩
  have hbyte := State.writeByte_eq s .payload i.toNat i.isLt
  rwa [State.writeByte, BitVec.ofNat_toNat, BitVec.setWidth_eq] at hbyte

end Sys2Proof.Machine
end

section
/-! SUPPORT. The encodings (spec/30_encoding.md): the fields of a host word (R80 to R83), reading back a command of the controller's
stream (R88), and the command bytes (R89). -/

namespace Sys2Proof

/-! The fields of a host word lie where R80 puts them. -/

section
variable (op : OpCode) (rsv : BitVec 2) (g : Gray) (y x : Coord)

@[simp] theorem wordX_append : wordX (op ++ rsv ++ g ++ y ++ x) = x := by
  rw [wordX, BitVec.extractLsb'_append_eq_of_add_le (by decide)]
  exact BitVec.extractLsb'_eq_self

@[simp] theorem wordY_append : wordY (op ++ rsv ++ g ++ y ++ x) = y := by
  rw [wordY, BitVec.extractLsb'_append_eq_of_le (by decide), BitVec.extractLsb'_append_eq_of_add_le (by decide)]
  exact BitVec.extractLsb'_eq_self

@[simp] theorem wordGray_append : wordGray (op ++ rsv ++ g ++ y ++ x) = g := by
  rw [wordGray, BitVec.extractLsb'_append_eq_of_le (by decide), BitVec.extractLsb'_append_eq_of_le (by decide),
    BitVec.extractLsb'_append_eq_of_add_le (by decide)]
  exact BitVec.extractLsb'_eq_self

@[simp] theorem wordOp_append : wordOp (op ++ rsv ++ g ++ y ++ x) = op := by
  rw [wordOp, BitVec.extractLsb'_append_eq_of_le (by decide), BitVec.extractLsb'_append_eq_of_le (by decide),
    BitVec.extractLsb'_append_eq_of_le (by decide), BitVec.extractLsb'_append_eq_of_le (by decide)]
  exact BitVec.extractLsb'_eq_self

end

/-! R81: what each value of OP selects. -/

theorem opCode_cases (op : OpCode) : op = 0b00#2 ∨ op = 0b01#2 ∨ op = 0b10#2 ∨ op = 0b11#2 := by
  revert op; decide

section
variable {w : HostWord}

theorem decodeHost_setpx (h : wordOp w = 0b00#2) : decodeHost w = .setpx (wordX w) (wordY w) (wordGray w) := by
  simp [decodeHost, h]

theorem decodeHost_clear (h : wordOp w = 0b01#2) : decodeHost w = .clear (wordGray w) := by simp [decodeHost, h]

theorem decodeHost_init (h : wordOp w = 0b10#2) : decodeHost w = .init := by simp [decodeHost, h]

theorem decodeHost_flush (h : wordOp w = 0b11#2) : decodeHost w = .flush := by simp [decodeHost, h]

end

/-- Settles O1: the fields of the word are the operands, and OP selects the operation. -/
theorem hostWordDecodes : Obligations.HostWordDecodes := by
  intro x y g rsv
  refine ⟨?_, ?_, decodeHost_init (wordOp_append ..), decodeHost_flush (wordOp_append ..)⟩
  · rw [decodeHost_setpx (wordOp_append ..), wordX_append, wordY_append, wordGray_append]
  · rw [decodeHost_clear (wordOp_append ..), wordGray_append]

/-- The OP value that selects an instruction, if the instruction is the host's. -/
def Instr.opCode : Instr → Option OpCode
  | .setpx _ _ _ => some 0b00#2
  | .clear _ => some 0b01#2
  | .init => some 0b10#2
  | .flush => some 0b11#2
  | _ => none

theorem opCode_decodeHost (w : HostWord) : (decodeHost w).opCode = some (wordOp w) := by
  rcases opCode_cases (wordOp w) with h | h | h | h
  · rw [decodeHost_setpx h, h]; rfl
  · rw [decodeHost_clear h, h]; rfl
  · rw [decodeHost_init h, h]; rfl
  · rw [decodeHost_flush h, h]; rfl

/-- R81: words of different operations are different instructions. -/
theorem wordOp_eq_of_decodeHost_eq {w w' : HostWord} (h : decodeHost w = decodeHost w') : wordOp w = wordOp w' :=
  Option.some.inj (by rw [← opCode_decodeHost, ← opCode_decodeHost, h])

/-- Settles O2: with the same OP the two words are the same constructor, whose operands are the fields it reads. -/
theorem hostWordsAgreeOnReadFields : Obligations.HostWordsAgreeOnReadFields := by
  intro w w'
  by_cases hop : wordOp w = wordOp w'
  · rcases opCode_cases (wordOp w) with h | h | h | h <;> have h' := hop.symm.trans h
    · simp [decodeHost_setpx h, decodeHost_setpx h', h, h']
    · simp [decodeHost_clear h, decodeHost_clear h', h, h']
    · simp [decodeHost_init h, decodeHost_init h', h, h']
    · simp [decodeHost_flush h, decodeHost_flush h', h, h']
  · exact iff_of_false (fun h => hop (wordOp_eq_of_decodeHost_eq h)) (fun h => hop h.1)

/-! The controller's stream. -/

theorem CtrlCmd.ofByte_byte (c : CtrlCmd) : CtrlCmd.ofByte c.byte = some c := by
  cases c <;> rfl

/-- R88: data bytes right after a command are its arguments. -/
theorem takeArgs_map (args : List Byte) (rest : List BusByte) :
    takeArgs args.length (args.map (fun a => ⟨true, a⟩) ++ rest) = .got args rest := by
  induction args with
  | nil => rfl
  | cons a args ih => simp [takeArgs, ih, ArgsRead.cons]

/-- R89: an instruction is built only from as many argument bytes as its command's row counts. -/
theorem CtrlCmd.length_of_build {c : CtrlCmd} {args : List Byte} {i : Instr} (h : c.build args = some i) :
    args.length = c.argCount := by
  rcases args with _ | ⟨a, _ | ⟨b, _ | ⟨d, rest⟩⟩⟩ <;> cases c <;> cases h <;> rfl

/-- R88: the controller reads a command with its arguments, whatever follows. -/
theorem readStream_items {c : CtrlCmd} {args : List Byte} {i : Instr} (h : c.build args = some i) (rest : List BusByte) :
    readStream (c.items args ++ rest) = .command i rest := by
  have hargs : takeArgs c.argCount (args.map (fun a => ⟨true, a⟩) ++ rest) = .got args rest := by
    rw [← CtrlCmd.length_of_build h]
    exact takeArgs_map args rest
  simp [readStream, CtrlCmd.items, CtrlCmd.ofByte_byte, hargs, h]

theorem decode_items {c : CtrlCmd} {args : List Byte} {i : Instr} (h : c.build args = some i) :
    decode (.stream (c.items args)) = some i := by
  have hread := readStream_items h []
  rw [List.append_nil] at hread
  simp [decode, hread]

/-- Settles O4: a host word is read field by field, a controller command by `decode_items`. -/
theorem decodeEncode : Obligations.DecodeEncode := by
  intro i _
  cases i with
  | setpx x y g => exact congrArg some (hostWordDecodes x y g 0#2).1
  | clear g => exact congrArg some (hostWordDecodes 0#32 0#32 g 0#2).2.1
  | init => exact congrArg some (decodeHost_init (wordOp_append ..))
  | flush => exact congrArg some (decodeHost_flush (wordOp_append ..))
  | _ => exact decode_items rfl

/-- Settles O5: the host words are decoded as they stand, and the streams are encodings (`decodeEncode`). -/
theorem wordsOfTheSpec : Obligations.WordsOfTheSpec := by
  refine ⟨?_, ?_, ?_, ?_, ?_, ?_, decodeEncode (.columnAddress 0x1C#8 0x5B#8) rfl, decodeEncode (.muxRatio 0x3F#8) rfl,
    decodeEncode .displayOn rfl, rfl⟩ <;> decide

/-- R89: a byte names a command exactly if it is in the table's first column. -/
theorem CtrlCmd.ofByte_isSome_iff {b : Byte} : (CtrlCmd.ofByte b).isSome = true ↔ b ∈ CtrlCmd.all.map CtrlCmd.byte := by
  simp [CtrlCmd.ofByte]

/-- The command byte a step sends, if it is a CMD step. -/
def SeqStep.cmdByte : SeqStep → Option Byte
  | .cmd c => some c
  | _ => none

theorem SeqStep.cmd_mem_iff {b : Byte} {l : List SeqStep} : .cmd b ∈ l ↔ b ∈ l.filterMap SeqStep.cmdByte := by
  rw [List.mem_filterMap]
  refine ⟨fun h => ⟨_, h, rfl⟩, fun ⟨st, hst, hb⟩ => ?_⟩
  cases st with
  | cmd c => cases hb; exact hst
  | _ => cases hb

theorem flushSequence_cmdBytes (c : Config) :
    (Machine.flushSequence c).filterMap SeqStep.cmdByte = [0x15#8, 0x75#8, 0x5C#8] := rfl

theorem initSequence_cmdBytes (c : Config) : (Machine.initSequence c).filterMap SeqStep.cmdByte =
    [0xB3#8, 0xCA#8, 0x15#8, 0x75#8, 0xA1#8, 0xA2#8, 0xA0#8, 0xA6#8, 0xAE#8, 0xB4#8, 0xD1#8, 0x15#8, 0x75#8, 0x5C#8, 0xAF#8] := rfl

/-- R89: the bytes a step list sends are those of its CMD steps, in whatever order and however often. -/
theorem SeqStep.cmd_mem_iff_of_cmdBytes {l : List SeqStep} {sent bytes : List Byte} (h : l.filterMap SeqStep.cmdByte = sent)
    (hsub : sent ⊆ bytes) (hsup : bytes ⊆ sent) (b : Byte) : .cmd b ∈ l ↔ b ∈ bytes := by
  rw [SeqStep.cmd_mem_iff, h]
  exact ⟨fun hb => hsub hb, fun hb => hsup hb⟩

/-- Settles O6: the first column of R89 is `CtrlCmd.byte` of the sixteen, its counts are `CtrlCmd.argCount`, and what a sequence sends
is read off its step list. -/
theorem commandByteTable : Obligations.CommandByteTable := by
  refine ⟨fun b => CtrlCmd.ofByte_isSome_iff, CtrlCmd.ofByte_byte, ⟨rfl, rfl⟩, ⟨rfl, rfl⟩, ⟨rfl, rfl⟩, ⟨rfl, rfl⟩, ⟨rfl, rfl⟩,
    ⟨rfl, rfl⟩, ⟨rfl, rfl⟩, rfl, rfl, rfl, ⟨rfl, rfl⟩, ⟨rfl, rfl⟩, ⟨rfl, rfl⟩, ⟨rfl, rfl⟩, ⟨rfl, rfl⟩, ⟨rfl, rfl⟩,
    fun c => SeqStep.cmd_mem_iff_of_cmdBytes (flushSequence_cmdBytes c) (by decide) (by decide),
    fun c => SeqStep.cmd_mem_iff_of_cmdBytes (initSequence_cmdBytes c) (by decide) (by decide),
    fun c => ⟨rfl, rfl, rfl, rfl, rfl, rfl, rfl, rfl⟩, rfl⟩

end Sys2Proof
end

section
/-! SUPPORT. The steps of the sequences (spec/30_encoding.md R87, R90 to R92): what starts at an edge, which steps drive a line, and
what a write sends. -/

namespace Sys2Proof

/-- R87, R90: PAYLOAD alone writes 8192 bytes. -/
theorem SeqStep.eq_payload_of_writeLen {st : SeqStep} (h : st.wellFormed = true) (hlen : st.writeLen = bufEntries) : st = .payload := by
  cases st with
  | payload => rfl
  | dat ds =>
    simp only [SeqStep.wellFormed, Bool.or_eq_true, beq_iff_eq] at h
    simp only [SeqStep.writeLen, bufEntries] at hlen
    omega
  | _ => cases hlen

end Sys2Proof

namespace Sys2Proof.Machine

/-- Settles O60. -/
theorem stepRunsTheControllerCommand : Obligations.StepRunsTheControllerCommand := by
  intro s i rest h
  simp only [step, State.nextAction, h]
  rfl

/-! The two lines. -/

namespace State

/-- R90, R13: all that driving the DC line changes. -/
theorem setDcLine_eq (s : State) (l : Bool) :
    s.setDcLine l = { s with dcLvl := l, trace := s.trace ++ (if s.dcLvl = l then [] else [.dc l]) } := by
  by_cases h : s.dcLvl = l
  · subst h; simp [setDcLine]
  · simp [setDcLine, h, setDcLvl, log]

/-- R90, R13: all that driving the reset line changes.  What a falling line leaves at the controller is log entry 6. -/
theorem setRstLine_eq (s : State) (l : Bool) :
    s.setRstLine l = { s with rstLvl := l, trace := s.trace ++ (if s.rstLvl = l then [] else [.rst l]),
                              ctrl := (s.setRstLine l).ctrl, inbox := (s.setRstLine l).inbox } := by
  by_cases h : s.rstLvl = l
  · subst h; simp [setRstLine_of_same]
  · rw [setRstLine_of_change h]
    cases l <;> simp [h, setRstLvl, log, ctrlUnknown, setCtrl, setInbox]

end State

/-- R90, R240: the edge that starts a step. -/
theorem step_starts {s : State} {e : Edge} {es : List Edge} {st : SeqStep} (hq : s.quiet) (hcoming : s.coming = e :: es)
    (hn : e.rstN = true) (hpace : s.pace e ≠ 0) (hw : s.wr.active = false) (hd : s.dly.active = false)
    (hst : s.currentStep = some st) :
    step s = .next (({ s with coming := es, tick := s.tick + 1, stalled := 0 } : State).startStep e st) := by
  obtain rfl := State.edge_of_coming hcoming
  have hpaced : s.edgeTaken.paced s.edge = { s with coming := es, tick := s.tick + 1, stalled := 0 } := by
    rw [State.paced, State.pace_edgeTaken, if_neg hpace, State.edgeTaken_eq hcoming]
    rfl
  rw [step_running hq hn hst, State.stepEdge_start (by simp [hw]) (by simp [hd]) (by simpa using hpace), hpaced]

/-- Settles O20: the edge starts the step (`step_starts`), which drives its line and moves STEP on. -/
theorem lineStepsCompleteAtOnce : Obligations.LineStepsCompleteAtOnce := by
  intro s e es l hq hcoming hn hwork _ hw hd
  have hpace : s.pace e ≠ 0 := by rwa [State.pace_of_work hwork]
  refine ⟨fun hst => ⟨_, step_starts hq hcoming hn hpace hw hd hst, ?_⟩,
    fun hst => ⟨_, step_starts hq hcoming hn hpace hw hd hst, ?_⟩⟩
  · refine ⟨by simp [State.startStep], by simp [State.startStep], by simp [State.startStep], ?_, fun hfall => ?_⟩
    · rw [State.startStep, State.setRstLine_eq]; rfl
    · simp [State.startStep, hfall]
  · refine ⟨by simp [State.startStep], by simp [State.startStep], by simp [State.startStep], ?_⟩
    rw [State.startStep, State.setDcLine_eq]; rfl

/-- Settles O21: the edge starts the step (`step_starts`); CMD and DAT drive the DC line first, PAYLOAD does not. -/
theorem writeStepsStartTheirWrite : Obligations.WriteStepsStartTheirWrite := by
  intro s e es hq hcoming hn hpace _ hw hd
  refine ⟨fun c hst => ⟨_, step_starts hq hcoming hn hpace hw hd hst, ?_⟩,
    fun ds hst => ⟨_, step_starts hq hcoming hn hpace hw hd hst, ?_⟩,
    fun hst => ⟨_, step_starts hq hcoming hn hpace hw hd hst, rfl⟩⟩
  · exact congrArg (State.startWrite · false 1 (leavesGap e 0)) (State.setDcLine_eq _ false)
  · exact congrArg (State.startWrite · true ds.length (leavesGap e 0)) (State.setDcLine_eq _ true)

/-! Which steps change a line. -/

section
variable {e : Edge} {s t : State} {st : SeqStep}

/-- R91: only RST drives the reset line. -/
theorem EdgeDoes.rstLvl (hd : EdgeDoes e s st t) : t.rstLvl = s.rstLvl ∨ ∃ l, st = .rst l := by
  cases hd with
  | starts => cases st <;> simp [State.startStep]
  | _ => simp

/-- R91: only CMD, DAT and DC drive the DC line. -/
theorem EdgeDoes.dcLvl (hd : EdgeDoes e s st t) :
    t.dcLvl = s.dcLvl ∨ (∃ c, st = .cmd c) ∨ (∃ ds, st = .dat ds) ∨ ∃ l, st = .dc l := by
  cases hd with
  | starts => cases st <;> simp [State.startStep]
  | _ => simp

theorem ExecDoes.lines (hd : ExecDoes s t) : t.rstLvl = s.rstLvl ∧ t.dcLvl = s.dcLvl := by
  cases hd <;> simp

/-- R36, R91: but for the block's reset, a step keeps both lines or is an edge of a sequence. -/
theorem StepDoes.lines (hd : StepDoes s t) (hn : s.edge.rstN = true) :
    (t.rstLvl = s.rstLvl ∧ t.dcLvl = s.dcLvl) ∨ ∃ st, s.currentStep = some st ∧ EdgeDoes s.edge s.edgeTaken st t := by
  cases hd with
  | sequence hq hn hp st hc t hx => exact .inr ⟨st, hc, hx⟩
  | reset hq hlow => rw [hn] at hlow; cases hlow
  | command i rest hr t hx => exact .inl (exec_does hx).lines
  | accept hq hn hp hv t hx => exact .inl (exec_does hx).lines
  | data => exact .inl (by simp [State.takeData_eq])
  | _ => exact .inl (by simp)

end

/-- Settles O40: `EdgeDoes.rstLvl` and `EdgeDoes.dcLvl` for the edges of a sequence; nothing else drives a line (`StepDoes.lines`). -/
theorem linesChangeOnlyAtTheirSteps : Obligations.LinesChangeOnlyAtTheirSteps := by
  intro s t h hn
  rcases (step_does h).lines hn with ⟨hrst, hdc⟩ | ⟨st, hst, hx⟩
  · exact ⟨absurd hrst, absurd hdc⟩
  · rw [hst]
    exact ⟨fun hne => by simpa using hx.rstLvl.resolve_left hne, fun hne => by simpa using hx.dcLvl.resolve_left hne⟩

/-! What a write sends. -/

/-- R87, R180: the bytes of a well-formed step's write have one of the three forms. -/
theorem State.wellFormedWrite_writeBytes (s : State) {st : SeqStep} (h : st.wellFormed = true) (hlen : 0 < st.writeLen) :
    wellFormedWrite st.writeDc (s.writeBytes st) = true := by
  have hbytes := State.writeBytes_length s st
  cases st with
  | cmd c => simpa [wellFormedWrite, SeqStep.writeDc, State.writeBytes, SeqStep.wellFormed] using h
  | dat ds =>
    simp only [SeqStep.wellFormed] at h
    simp [wellFormedWrite, SeqStep.writeDc, State.writeBytes, h]
  | payload => simp [wellFormedWrite, SeqStep.writeDc, hbytes, SeqStep.writeLen]
  | _ => cases hlen

section
variable {e : Edge} {s t : State} {st : SeqStep} {dc ok : Bool} {bytes : List Byte}

/-- R90, R163: a step makes no write event as it starts. -/
theorem State.startStep_trace_ne_wr (s : State) : (s.startStep e st).trace ≠ s.trace ++ [.wr dc bytes ok] := by
  cases st <;> simp [State.startStep, ite_eq_iff]

/-- R163, R201: a write event ends the write in progress and carries its level and its bytes. -/
theorem EdgeDoes.wr_event (hd : EdgeDoes e s st t) (h : t.trace = s.trace ++ [.wr dc bytes ok]) :
    s.wr.active = true ∧ dc = s.wr.dc ∧ bytes = s.writeBytes st := by
  cases hd with
  | failsEarly ha =>
    obtain ⟨-, hkdc, -⟩ := State.offer_keeps s.wr e s.stalled
    rw [State.failWrite_trace, State.offerByte_trace, State.offerByte_wr, hkdc, State.writeBytes_offerByte] at h
    cases List.append_cancel_left h
    exact ⟨ha, rfl, rfl⟩
  | failsLate ha | completes ha =>
    cases List.append_cancel_left h
    exact ⟨ha, rfl, rfl⟩
  | starts => exact absurd h (State.startStep_trace_ne_wr (s.paced e))
  | _ => simp at h

/-- R13: only an edge of a sequence makes a write event. -/
theorem StepDoes.wr_event (hd : StepDoes s t) (h : t.trace = s.trace ++ [.wr dc bytes ok]) :
    ∃ st, s.currentStep = some st ∧ s.wr.active = true ∧ dc = s.wr.dc ∧ bytes = s.writeBytes st := by
  cases hd with
  | sequence hq hn hp st hc t hx =>
    obtain ⟨ha, hdc, hbytes⟩ := hx.wr_event h
    exact ⟨st, hc, ha, hdc, hbytes.trans (by cases st <;> rfl)⟩
  | command i rest hr t hx => simp [(exec_does hx).trace] at h
  | accept hq hn hp hv t hx => simp [(exec_does hx).trace] at h
  | data => simp [State.takeData_eq] at h
  | reset => cases hr : s.rstLvl <;> cases hdc : s.dcLvl <;> simp [hr, hdc] at h
  | _ => simp at h

end

/-- Settles O30: a write event is of the write in progress (`StepDoes.wr_event`), which is the current step's
(`State.SequencerOk.writing`), a step that R90 admits. -/
theorem everyWriteHasAForm : Obligations.EveryWriteHasAForm := by
  intro s t dc bytes ok hs h htrace
  obtain ⟨st, hst, ha, rfl, rfl⟩ := (step_does h).wr_event htrace
  obtain ⟨st', hst', hlen, -, hdc, -⟩ := hs.writing ha
  obtain rfl : st = st' := Option.some.inj (hst.symm.trans hst')
  have hwf := State.currentStep_wellFormed hst
  rw [hdc, State.writeBytes_length]
  exact ⟨s.wellFormedWrite_writeBytes hwf hlen, st, hst, rfl, rfl, SeqStep.eq_payload_of_writeLen hwf⟩

end Sys2Proof.Machine
end

section
/-! SUPPORT. Host words that decode to one instruction (spec/30_encoding.md R82, R83): the word itself reaches only the trace. -/

namespace Sys2Proof.Machine

/-! R13: the trace is an observation, which no instruction reads. -/

theorem State.setPixel_withTrace (s : State) (τ : List Event) (x y : Coord) (g : Gray) :
    ({ s with trace := τ } : State).setPixel x y g = { s.setPixel x y g with trace := τ } := by
  by_cases h : inRange x y = true
  · simp only [State.setPixel, if_pos h]; rfl
  · simp only [State.setPixel, if_neg h]

theorem State.whenReady_withTrace {s a t : State} (τ : List Event) (h : s.whenReady a = .next t) :
    ({ s with trace := τ } : State).whenReady { a with trace := τ } = .next { t with trace := τ } := by
  rw [State.whenReady_eq] at h ⊢
  rw [← Host.Outcome.next.inj h]
  by_cases hp : s.phase = .idle
  · simp only [if_pos hp]
  · simp only [if_neg hp]

theorem exec_withTrace {i : Instr} {s t : State} (τ : List Event) (h : exec i s = .next t) :
    exec i { s with trace := τ } = .next { t with trace := τ } := by
  cases i with
  | setpx x y g =>
    rw [← State.whenReady_withTrace τ h, exec, execSetpx]
    congr 1
    exact congrArg (State.respond · 0b00#2 false) (State.setPixel_withTrace (s.setCur ⟨0b00#2, x, y, g⟩) τ x y g)
  | clear | init | flush => exact State.whenReady_withTrace τ h
  | _ => cases h; rfl

theorem State.ports_withTrace (s : State) (τ : List Event) (rstN : Bool) :
    ({ s with trace := τ } : State).ports rstN = s.ports rstN := rfl

/-! R22: the block looks at the offered word only where it takes a command. -/

/-- Where the controller has nothing to act on, the step is the block's action. -/
theorem step_congr_of_quiet {s u : State} (hs : s.quiet) (hu : u.quiet) (h : s.blockAction s.edge = u.blockAction u.edge) :
    step s = step u := by
  simp only [step, State.nextAction, hs, hu, h]

section
variable (s : State) (e : Edge) (w : HostWord)

theorem State.clearEdge_word : s.clearEdge { e with cmdWord := w } = s.clearEdge e := rfl

theorem State.fillEdge_word : s.fillEdge { e with cmdWord := w } = s.fillEdge e := rfl

theorem State.sequenceEdge_word : s.sequenceEdge { e with cmdWord := w } = s.sequenceEdge e := rfl

end

theorem State.blockAction_word_unseen {s : State} {e : Edge} (h : ¬ (e.rstN = true ∧ s.phase = .idle ∧ e.cmdValid = true))
    (w : HostWord) : s.blockAction { e with cmdWord := w } = s.blockAction e := by
  simp only [State.blockAction, State.clearEdge_word, State.fillEdge_word, State.sequenceEdge_word]
  by_cases hn : e.rstN = true
  · cases hp : s.phase with
    | idle => simp [hn, show e.cmdValid = false by simpa [hn, hp] using h]
    | _ => rfl
  · simp only [if_neg hn]

theorem State.edgeTaken_setComing (s : State) (e : Edge) (es : List Edge) :
    (s.setComing (e :: es)).edgeTaken = (s.setComing es).ticked := rfl

/-- The block acts on the edge it is given, and uses up the coming one whatever that is. -/
theorem State.blockAction_setComing (s : State) (e e₁ e₂ : Edge) (es : List Edge) :
    (s.setComing (e₁ :: es)).blockAction e = (s.setComing (e₂ :: es)).blockAction e := by
  simp only [State.blockAction, State.commandTaken, State.edgeTaken_setComing, State.setComing_phase]

/-- R22: a step that takes no command does the same for any offered word. -/
theorem step_word_unseen {s : State} {e : Edge} {es : List Edge} (hq : s.quiet)
    (h : ¬ (e.rstN = true ∧ s.phase = .idle ∧ e.cmdValid = true)) (w : HostWord) :
    step (s.setComing ({ e with cmdWord := w } :: es)) = step (s.setComing (e :: es)) := by
  refine step_congr_of_quiet hq hq ?_
  exact (State.blockAction_word_unseen (s := s.setComing ({ e with cmdWord := w } :: es)) h w).trans
    (State.blockAction_setComing s e _ e es)

/-- Settles O3: a handed-over word is decoded, and otherwise only recorded (`exec_withTrace`); at every other edge it is not looked at
(`step_word_unseen`). -/
theorem unreadFieldsAffectNothing : Obligations.UnreadFieldsAffectNothing := by
  intro s t e es w w' hq hdecode h
  have hquiet (v : HostWord) : (s.setComing ({ e with cmdWord := v } :: es)).quiet := hq
  by_cases haccept : e.rstN = true ∧ s.phase = .idle ∧ e.cmdValid = true
  · obtain ⟨hn, hp, hv⟩ := haccept
    have hedge (v : HostWord) : (s.setComing ({ e with cmdWord := v } :: es)).edge = { e with cmdWord := v } := rfl
    simp only [step_accept (hquiet w) hn hp hv, hedge, hdecode] at h
    refine ⟨{ t with trace := s.trace ++ [.cmd w'] }, ?_, rfl, State.ports_withTrace t _⟩
    have htaken : (s.setComing ({ e with cmdWord := w' } :: es)).commandTaken { e with cmdWord := w' } =
        { (s.setComing ({ e with cmdWord := w } :: es)).commandTaken { e with cmdWord := w } with
          trace := s.trace ++ [.cmd w'] } := rfl
    have hrun := exec_withTrace (s.trace ++ [Event.cmd w']) h
    rw [← htaken] at hrun
    exact (step_accept (hquiet w') hn hp hv).trans hrun
  · rw [step_word_unseen hq haccept] at h
    exact ⟨t, (step_word_unseen hq haccept w').trans h, rfl, fun _ => rfl⟩

end Sys2Proof.Machine
end

section
/-! SUPPORT. Entry values and the bounds test (spec/40_frame_store.md R100, R102), the entries SETPX and CLEAR write (R103, R104),
SWAP and DONE (R105, R129, R140), and a whole CLEAR. -/

namespace Sys2Proof.Machine

/-! Operands. -/

/-- Settles O7: the high nibble is `g` shifted by 4, so the entry is `16*g + g`. -/
theorem entryValueDoublesTheNibble : Obligations.EntryValueDoublesTheNibble := by
  intro g
  have hg := g.isLt
  refine ⟨?_, ?_, ?_, ?_⟩
  · rw [entryOf, BitVec.append_def, BitVec.shiftLeftZeroExtend_eq, BitVec.setWidth'_eq]
  · rw [entryOf, BitVec.toNat_append, ← Nat.shiftLeft_add_eq_or_of_lt hg, Nat.shiftLeft_eq]
    omega
  · exact BitVec.extractLsb'_append_eq_left
  · exact BitVec.extractLsb'_append_eq_right

/-- R102: the bits from `k` on are zero exactly below `2^k`. -/
theorem extractLsb'_eq_zero_iff {k n : Nat} {x : BitVec (k + n)} : x.extractLsb' k n = 0#n ↔ x.toNat < 2 ^ k := by
  have hx : x.toNat / 2 ^ k < 2 ^ n := Nat.div_lt_of_lt_mul (by rw [← Nat.pow_add]; exact x.isLt)
  rw [BitVec.toNat_eq, BitVec.extractLsb'_toNat, Nat.shiftRight_eq_div_pow, Nat.mod_eq_of_lt hx]
  simp [Nat.div_eq_zero_iff]

/-- Settles O8: `sle` and `slt` compare the signed values; in range the unsigned values say the same (`inRange_iff_toNat`), and they
are the ones the high bits bound. -/
theorem inRangeIsTheSignedTest : Obligations.InRangeIsTheSignedTest := by
  intro x y
  have hx : x.extractLsb' 7 25 = 0#25 ↔ x.toNat < 128 := extractLsb'_eq_zero_iff
  have hy : y.extractLsb' 6 26 = 0#26 ↔ y.toNat < 64 := extractLsb'_eq_zero_iff
  refine ⟨?_, by rw [inRange_iff_toNat, hx, hy]⟩
  simp only [inRange, Bool.and_eq_true, BitVec.sle_iff_toInt_le, BitVec.slt_iff_toInt_lt, and_assoc]
  rfl

/-! SETPX. -/

namespace State

/-- R103: the entries after SETPX. -/
theorem setPixel_entry {s : State} (hm : s.MemoryOk) (x y : Coord) (g : Gray) (b : BitVec 1) (i : EntryIndex) :
    (s.setPixel x y g).entry b i =
      if inRange x y = true ∧ b = s.back ∧ i = entryIndex x y then entryOf g else s.entry b i := by
  by_cases hin : inRange x y = true
  · by_cases hbi : b = s.back ∧ i = entryIndex x y
    · obtain ⟨rfl, rfl⟩ := hbi
      rw [if_pos ⟨hin, rfl, rfl⟩, entry, setPixel_mem, if_pos hin]
      exact Memory.read_write_self hm _ _
    · rw [if_neg fun h => hbi h.2]
      exact setPixel_entry_other s x y g b i (not_and_or.1 hbi)
  · rw [if_neg fun h => hin h.1]
    exact entry_of_mem (by rw [setPixel_mem, if_neg hin]) b i

/-- R103: SETPX writes nothing but the frame store. -/
theorem setPixel_frame (s : State) (x y : Coord) (g : Gray) : s.setPixel x y g = { s with mem := (s.setPixel x y g).mem } := by
  unfold setPixel
  split <;> rfl

end State

/-- Settles O10: IDLE accepts the command, and only the pixel write touches the frame store (`State.setPixel_entry`). -/
theorem setpxWritesOneBackEntry : Obligations.SetpxWritesOneBackEntry := by
  intro s x y g hp hm
  refine ⟨_, State.whenReady_idle _ hp, ?_, ?_, ?_⟩
  · exact State.setPixel_entry (s := s.setCur ⟨0b00#2, x, y, g⟩) hm x y g
  · intro hout
    simp [hout]
  · rw [State.setPixel_frame]
    rfl

/-! CLEAR. -/

/-- Settles O12: IDLE accepts the command. -/
theorem clearStartsTheFill : Obligations.ClearStartsTheFill := fun _ _ hp => State.whenReady_idle _ hp

namespace State

/-- R104: an edge of CLEAR fills as many entries as it gets done; the end of the buffer needs no bound of its own. -/
theorem clearEdge_entry {s : State} (hm : s.MemoryOk) (e : Edge) (b : BitVec 1) (i : EntryIndex) :
    (s.clearEdge e).entry b i =
      if b = s.back ∧ s.clrIdx.toNat ≤ i.toNat ∧ i.toNat < s.clrIdx.toNat + s.pace e then entryOf s.cur.gray
      else s.entry b i := by
  have hi := i.isLt
  have hend : s.clrIdx.toNat ≤ i.toNat ∧ i.toNat < s.clrIdx.toNat + min (s.pace e) (bufEntries - s.clrIdx.toNat) ↔
      s.clrIdx.toNat ≤ i.toNat ∧ i.toNat < s.clrIdx.toNat + s.pace e := by
    simp only [bufEntries]
    omega
  simp only [clearEdge_spec hm, hend]

/-- R104: CLEAR does not answer before its last entry. -/
theorem clearEdge_rsp_of_lt {s : State} {e : Edge} (h : s.clrIdx.toNat + s.pace e < bufEntries) :
    (s.clearEdge e).rsp = s.rsp := by
  unfold clearEdge
  dsimp only
  rw [if_neg (by omega)]
  rfl

end State

/-- Settles O13: the edge is `State.clearEdge` on the state that has used up its edge. -/
theorem clearEdgeFillsTheNextEntries : Obligations.ClearEdgeFillsTheNextEntries := by
  intro s e es hq hcoming hn hp hm
  obtain rfl := State.edge_of_coming hcoming
  have hcases := State.clearEdge_cases (s := s.edgeTaken) hp s.edge
  refine ⟨_, step_clearing hq hn hp, State.clearEdge_entry (s := s.edgeTaken) hm _, fun hlt => ?_, fun hle => ?_, ?_⟩
  · obtain ⟨-, hph, hidx⟩ := hcases.resolve_right fun h => Nat.not_le_of_lt hlt h.1
    exact ⟨hph, hidx, State.clearEdge_rsp_of_lt (s := s.edgeTaken) hlt⟩
  · obtain ⟨-, hph, hrsp⟩ := hcases.resolve_left fun h => Nat.not_lt_of_le hle h.1
    exact ⟨hph, hrsp⟩
  · rw [State.clearEdge_frame, State.edgeTaken_eq hcoming]

/-- Settles O48: every way a step can go keeps the account (`StepDoes.fillOk`). -/
theorem fillsKeepTheirAccount : Obligations.FillsKeepTheirAccount := fun _ _ hm h hs => (step_does hs).fillOk hm h

/-! Runs. -/

/-- A run that stops nowhere begins with a step that does not stop. -/
theorem core_run_succ_iff {M : Host.Core} {k : Nat} {s t : M.State} :
    M.run (k + 1) s = .next t ↔ ∃ u, M.step s = .next u ∧ M.run k u = .next t := by
  rw [Host.Core.run]
  cases M.step s <;> simp

theorem runs_succ_iff {k : Nat} {s t : State} :
    runs (k + 1) s = .next t ↔ ∃ u, step s = .next u ∧ runs k u = .next t := core_run_succ_iff

/-- What every step keeps, every run keeps. -/
theorem runs_keeps {P : State → Prop} (hkeep : ∀ s t, P s → step s = .next t → P t) {k : Nat} {s t : State} (hs : P s)
    (h : runs k s = .next t) : P t := by
  induction k generalizing s with
  | zero => exact Host.Outcome.next.inj h ▸ hs
  | succ k ih =>
    obtain ⟨u, hstep, hrun⟩ := runs_succ_iff.1 h
    exact ih (hkeep s u hs hstep) hrun

/-- A run goes on with a step. -/
theorem runs_snoc {k : Nat} {s u t : State} (hrun : runs k s = .next u) (hstep : step u = .next t) : runs (k + 1) s = .next t := by
  induction k generalizing s with
  | zero =>
    obtain rfl := Host.Outcome.next.inj hrun
    exact runs_succ_iff.2 ⟨t, hstep, rfl⟩
  | succ k ih =>
    obtain ⟨v, hv, hrest⟩ := runs_succ_iff.1 hrun
    exact runs_succ_iff.2 ⟨v, hv, ih hrest⟩

/-! A whole CLEAR. -/

/-- R104: what `n` entries of CLEARING lead to, over any number of edges: those entries filled, CLR_IDX moved on or the answer given,
and everything else of the block and the controller kept. -/
structure State.Clears (s : State) (n : Nat) (t : State) : Prop where
  entries : ∀ b i, t.entry b i =
    if b = s.back ∧ s.clrIdx.toNat ≤ i.toNat ∧ i.toNat < s.clrIdx.toNat + n then entryOf s.cur.gray else s.entry b i
  more : s.clrIdx.toNat + n < 8192 → t.phase = .clearing ∧ t.clrIdx.toNat = s.clrIdx.toNat + n
  last : 8192 ≤ s.clrIdx.toNat + n → t.phase = .respond ∧ t.rsp = ⟨0b01#2, false⟩
  frame : t = { s with mem := t.mem, clrIdx := t.clrIdx, phase := t.phase, rsp := t.rsp, coming := t.coming, tick := t.tick,
                       stalled := t.stalled }

/-- No entries filled, nothing changed. -/
theorem State.Clears.refl {s : State} (hp : s.phase = .clearing) (hidx : s.clrIdx.toNat < 8192) : s.Clears 0 s where
  entries _ _ := by rw [if_neg (by omega)]
  more _ := ⟨hp, rfl⟩
  last h := by omega
  frame := rfl

/-- The entries of one row of edges, then those of the next. -/
theorem State.Clears.trans {s u t : State} {m n : Nat} (hsu : s.Clears m u) (hm : s.clrIdx.toNat + m < 8192) (hut : u.Clears n t) :
    s.Clears (m + n) t := by
  obtain ⟨-, hidx⟩ := hsu.more hm
  have hback : u.back = s.back := by rw [hsu.frame]; rfl
  have hcur : u.cur = s.cur := by rw [hsu.frame]
  refine ⟨fun b i => ?_, fun h => ?_, fun h => hut.last (by omega), ?_⟩
  · rw [hut.entries, hsu.entries, hback, hcur, hidx]
    refine (ite_or ..).symm.trans (if_congr ?_ rfl rfl)
    rw [← and_or_left]
    exact and_congr_right fun _ => by omega
  · obtain ⟨hph, hidx'⟩ := hut.more (by omega)
    exact ⟨hph, by omega⟩
  · rw [hut.frame, hsu.frame]

/-- R104: one edge of CLEARING at one entry. -/
theorem step_clears_one {s : State} {es : List Edge} (hq : s.quiet) (hcoming : s.coming = goEdge :: es) (hp : s.phase = .clearing)
    (hm : s.MemoryOk) : ∃ t, step s = .next t ∧ s.Clears 1 t ∧ t.coming = es := by
  have hpace : s.pace goEdge = 1 := State.pace_of_work Nat.one_ne_zero
  obtain ⟨t, hstep, hentry, hmore, hlast, hframe⟩ := clearEdgeFillsTheNextEntries s goEdge es hq hcoming rfl hp hm
  rw [hpace] at hmore hlast
  simp only [hpace] at hentry
  refine ⟨t, hstep, ⟨hentry, fun h => ?_, hlast, ?_⟩, ?_⟩
  · obtain ⟨hph, hidx, -⟩ := hmore h
    exact ⟨hph, hidx⟩
  · rw [hframe]
  · rw [hframe]

/-- R104: a row of edges of CLEARING at one entry each. -/
theorem runs_clears {n : Nat} {s : State} {rest : List Edge} (hq : s.quiet) (hcoming : s.coming = List.replicate n goEdge ++ rest)
    (hp : s.phase = .clearing) (hm : s.MemoryOk) (hpos : s.clrIdx.toNat < 8192) (hn : s.clrIdx.toNat + n ≤ 8192) :
    ∃ t, runs n s = .next t ∧ s.Clears n t ∧ t.coming = rest := by
  induction n generalizing rest with
  | zero => exact ⟨s, rfl, .refl hp hpos, hcoming⟩
  | succ n ih =>
    rw [List.replicate_succ', List.append_assoc] at hcoming
    obtain ⟨u, hrun, hsu, hgo⟩ := ih hcoming (by omega)
    obtain ⟨hph, -⟩ := hsu.more (by omega)
    have hquiet : u.quiet := by rw [hsu.frame]; exact hq
    obtain ⟨t, hstep, hut, hend⟩ := step_clears_one hquiet hgo hph (runs_keeps memoryStaysCanonical hm hrun)
    exact ⟨t, runs_snoc hrun hstep, hsu.trans (by omega) hut, hend⟩

/-- R104: the edge that accepts CLEAR. -/
theorem step_accepts_clear {s : State} {w : HostWord} {es : List Edge} (hq : s.quiet) (hp : s.phase = .idle)
    (hw : wordOp w = 0b01#2) (hcoming : s.coming = offerEdge w :: es) :
    ∃ u, step s = .next u ∧ u.cur.gray = wordGray w ∧
      u = { s with phase := .clearing, clrIdx := 0#14, cur := u.cur, coming := es, tick := u.tick,
                   trace := s.trace ++ [.cmd w] } := by
  obtain ⟨haccept, -⟩ := stepRunsTheHostCommand s (offerEdge w) es hq hcoming rfl hp
  have hdecode : decodeHost (offerEdge w).cmdWord = .clear (wordGray w) := decodeHost_clear hw
  rw [hdecode] at haccept
  exact ⟨_, (haccept rfl).trans (clearStartsTheFill _ _ hp), rfl, rfl⟩

/-- Settles O14: one edge accepts the command, and 8192 more fill an entry each (`runs_clears`). -/
theorem clearRunsToItsAnswer : Obligations.ClearRunsToItsAnswer := by
  intro s w rest hp hinbox hm hw hcoming
  have hq : s.quiet := by rw [State.quiet, hinbox]; rfl
  obtain ⟨u, hstep, hgray, hu⟩ := step_accepts_clear hq hp hw hcoming
  have hback : u.back = s.back := by rw [hu]; rfl
  have hidx : u.clrIdx.toNat = 0 := by rw [hu]; rfl
  have hmem : u.mem = s.mem := by rw [hu]
  have hquiet : u.quiet := by rw [hu]; exact hq
  have hcoming' : u.coming = List.replicate 8192 goEdge ++ rest := by rw [hu]
  have hph' : u.phase = .clearing := by rw [hu]
  obtain ⟨t, hrun, hclears, hend⟩ := runs_clears hquiet hcoming' hph' (memoryStaysCanonical s u hm hstep) (by omega) (by omega)
  have hrun' : runs 8193 s = .next t := runs_succ_iff.2 ⟨u, hstep, hrun⟩
  obtain ⟨hph, hrsp⟩ := hclears.last (by omega)
  refine ⟨t, hrun', fun i => ?_, fun i => ?_, runs_keeps memoryStaysCanonical hm hrun', ?_, ?_⟩
  · have hi := i.isLt
    rw [hclears.entries, if_pos ⟨hback.symm, by omega, by omega⟩, hgray]
  · rw [hclears.entries, if_neg fun h => State.back_ne_front s (hback.symm.trans h.1.symm), State.entry_of_mem hmem]
  · rw [hclears.frame, hu]
  · have hframe := hclears.frame
    rw [hph, hrsp, hend, hu] at hframe
    rw [hframe]

/-! SWAP and DONE. -/

/-- Settles O22: the edge starts the step (`step_starts`), which completes at once. -/
theorem swapAndDoneCompleteAtOnce : Obligations.SwapAndDoneCompleteAtOnce := by
  intro s e es hq hcoming hn hwork hw hd
  have hpace : s.pace e ≠ 0 := by rwa [State.pace_of_work hwork]
  have hstarts {st : SeqStep} (hst : s.currentStep = some st) := step_starts hq hcoming hn hpace hw hd hst
  refine ⟨fun _ hst => hstarts hst, fun hp hst => ?_, fun hp hst => ?_⟩
  · rw [hstarts hst, State.startStep]
    exact congrArg Host.Outcome.next (State.finishSequence_init hp)
  · rw [hstarts hst, State.startStep]
    exact congrArg Host.Outcome.next (State.finishSequence_flush hp)

end Sys2Proof.Machine
end

section
/-! SUPPORT. INIT's acceptance and its table (spec/41_register_init_fsm.md R123, R124), and the delay port (R120, R121). -/

namespace Sys2Proof.Machine

/-- Settles O15: IDLE accepts the command. -/
theorem initStartsItsSequence : Obligations.InitStartsItsSequence := fun _ hp => State.whenReady_idle _ hp

/-- Settles O18: the list is the concatenation of its parts, and the defaults are those of `Config`. -/
theorem initSequenceIsTheTable : Obligations.InitSequenceIsTheTable := ⟨fun _ => ⟨rfl, rfl⟩, rfl⟩

section
variable {s : State} {e : Edge} {es : List Edge} {st : SeqStep} (hq : s.quiet) (hcoming : s.coming = e :: es) (hn : e.rstN = true)
  (hst : s.currentStep = some st)
include hq hcoming hn hst

/-- R240: the edge at which the block does not start the step yet. -/
theorem step_stalls (hw : s.wr.active = false) (hd : s.dly.active = false) (hpace : s.pace e = 0) :
    step s = .next { s with coming := es, tick := s.tick + 1, stalled := s.stalled + 1 } := by
  obtain rfl := State.edge_of_coming hcoming
  have hstall : s.edgeTaken.stepEdge s.edge st = s.edgeTaken.paced s.edge :=
    State.stepEdge_stall (by simp [hw]) (by simp [hd]) hpace
  rw [step_running hq hn hst, hstall, State.paced, State.pace_edgeTaken, if_pos hpace, State.edgeTaken_eq hcoming]
  rfl

/-- R160: an edge of a write in progress. -/
theorem step_writes (hw : s.wr.active = true) :
    step s = .next (({ s with coming := es, tick := s.tick + 1 } : State).writeEdge e st) := by
  obtain rfl := State.edge_of_coming hcoming
  rw [step_running hq hn hst, State.stepEdge_write (s := s.edgeTaken) hw, State.edgeTaken_eq hcoming]

/-- R120, R121: an edge of an outstanding delay. -/
theorem step_delays (hw : s.wr.active = false) (hd : s.dly.active = true) :
    step s = .next (({ s with coming := es, tick := s.tick + 1 } : State).delayEdge e) := by
  obtain rfl := State.edge_of_coming hcoming
  rw [step_running hq hn hst, State.stepEdge_delay (s := s.edgeTaken) (by simp [hw]) hd, State.edgeTaken_eq hcoming]

end

/-- Settles O23: with no request outstanding the edge starts the step (`step_starts`) or stalls (`step_stalls`); with one it waits for
`dly_done` (`step_delays`). -/
theorem delayIsRequestedHeldAndEnded : Obligations.DelayIsRequestedHeldAndEnded := by
  intro s e es n hq hcoming hn _ hw hst
  refine ⟨fun hd hwork => step_starts hq hcoming hn (by rwa [State.pace_of_work hwork]) hw hd hst,
    step_stalls hq hcoming hn hst hw, fun hd hdone => ?_, fun hd hdone => ?_⟩ <;>
  · rw [step_delays hq hcoming hn hst hw hd, State.delayEdge, hdone]
    rfl

end Sys2Proof.Machine
end

section
/-! SUPPORT. Runs that serve the steps of a sequence one after the other (spec/30_encoding.md R90 to R92): what one step leaves when
its write is answered `ok` or its delay ended, and how such runs follow each other. -/

namespace Sys2Proof

/-- R26, R90: the steps that send the controller nothing: no byte, and no falling reset line. -/
def SeqStep.silent : SeqStep → Bool
  | .rst l => l
  | .dly _ | .dc _ | .swap => true
  | .cmd _ | .dat _ | .payload | .done => false

end Sys2Proof

namespace Sys2Proof.Machine

/-! Runs of any number of steps. -/

namespace State

/-- Some number of steps leads from `s` to `t`. -/
def Reaches (s t : State) : Prop := ∃ n, runs n s = .next t

theorem Reaches.refl (s : State) : s.Reaches s := ⟨0, rfl⟩

theorem Reaches.snoc {s u t : State} (h : s.Reaches u) (hstep : step u = .next t) : s.Reaches t :=
  h.elim fun n hrun => ⟨n + 1, runs_snoc hrun hstep⟩

theorem Reaches.of_step {s t : State} (hstep : step s = .next t) : s.Reaches t := (Reaches.refl s).snoc hstep

theorem Reaches.trans {s u t : State} (hsu : s.Reaches u) (hut : u.Reaches t) : s.Reaches t := by
  obtain ⟨n, hrun⟩ := hut
  induction n generalizing u with
  | zero => exact Host.Outcome.next.inj hrun ▸ hsu
  | succ n ih =>
    obtain ⟨v, hstep, hrest⟩ := runs_succ_iff.1 hrun
    exact ih (hsu.snoc hstep) hrest

end State

/-! FRONT and the two lines along a list of steps, and the events. -/

/-- FRONT, RST_LVL and DC_LVL: what the events of a step depend on. -/
structure Levels where
  front : BitVec 1
  rst : Bool
  dc : Bool

/-- R91, R105: the levels after a step. -/
def Levels.after (l : Levels) (st : SeqStep) : Levels where
  front := if st = .swap then l.front ^^^ 1#1 else l.front
  rst := rstAfter l.rst st
  dc := dcAfter l.dc st

/-- A step that writes changes no level but DC_LVL. -/
theorem Levels.after_write (l : Levels) {st : SeqStep} (hlen : 0 < st.writeLen) :
    l.after st = ⟨l.front, l.rst, dcAfter l.dc st⟩ := by
  cases st with
  | cmd | dat | payload => rfl
  | _ => cases hlen

def State.levels (s : State) : Levels := ⟨s.front, s.rstLvl, s.dcLvl⟩

/-- R13: the events of steps that complete; `frame` gives the contents of each buffer. -/
def stepsTrace (frame : BitVec 1 → List Byte) : Levels → List SeqStep → List Event
  | _, [] => []
  | l, st :: rest => stepTrace (frame l.front) l.rst l.dc true st ++ stepsTrace frame (l.after st) rest

theorem stepsTrace_append (frame : BitVec 1 → List Byte) (l : Levels) (a b : List SeqStep) :
    stepsTrace frame l (a ++ b) = stepsTrace frame l a ++ stepsTrace frame (a.foldl Levels.after l) b := by
  induction a generalizing l with
  | nil => rfl
  | cons st a ih => simp only [List.cons_append, stepsTrace, ih, List.foldl_cons, List.append_assoc]

/-- R91: the event of the DC line as a step starts, from the level it has. -/
def dcTrace (dc : Bool) (st : SeqStep) : List Event := if dc = dcAfter dc st then [] else [.dc (dcAfter dc st)]

/-! What serving steps means. -/

namespace State

/-- Between two steps, with `steps` next in the sequence and the edges that serve them coming, then `es`. -/
structure Faces (s : State) (steps : List SeqStep) (es : List Edge) : Prop where
  writes : s.wr.active = false
  delays : s.dly.active = false
  upcoming : steps <+: s.sequence.drop s.stepPtr.toNat
  coming : s.coming = sequenceEdges steps ++ es

/-- A run leads from `s`, between two steps, to `t`, between two later ones: `steps` have completed.  What the controller makes of
their bytes is left to the lemmas that say which bytes they are. -/
structure Serves (s : State) (steps : List SeqStep) (t : State) : Prop where
  reaches : s.Reaches t
  writes : t.wr.active = false
  delays : t.dly.active = false
  stepPtr : t.stepPtr.toNat = s.stepPtr.toNat + steps.length
  levels : t.levels = steps.foldl Levels.after s.levels
  trace : t.trace = s.trace ++ stepsTrace s.frame s.levels steps
  coming : s.coming = sequenceEdges steps ++ t.coming
  frame : t = { s with stepPtr := t.stepPtr, front := t.front, rstLvl := t.rstLvl, dcLvl := t.dcLvl, wr := t.wr, dly := t.dly,
                       ctrl := t.ctrl, inbox := t.inbox, coming := t.coming, tick := t.tick, stalled := t.stalled,
                       trace := t.trace }

theorem Faces.currentStep {s : State} {st : SeqStep} {rest : List SeqStep} {es : List Edge} (h : s.Faces (st :: rest) es) :
    s.currentStep = some st := by
  obtain ⟨later, hlater⟩ := h.upcoming
  have hhead : (s.sequence.drop s.stepPtr.toNat)[0]? = some st := by rw [← hlater]; rfl
  simpa [State.currentStep] using hhead

section
variable {s u t : State} {a b : List SeqStep} {es : List Edge}

theorem Serves.cfg (h : s.Serves a t) : t.cfg = s.cfg := by rw [h.frame]

theorem Serves.mem (h : s.Serves a t) : t.mem = s.mem := by rw [h.frame]

theorem Serves.phase (h : s.Serves a t) : t.phase = s.phase := by rw [h.frame]

theorem Serves.frame_eq (h : s.Serves a t) : t.frame = s.frame := by rw [h.frame]; rfl

theorem Serves.sequence (h : s.Serves a t) : t.sequence = s.sequence :=
  sequence_congr h.phase h.cfg

/-- No step, nothing changed. -/
theorem Serves.refl (hw : s.wr.active = false) (hd : s.dly.active = false) : s.Serves [] s where
  reaches := .refl s
  writes := hw
  delays := hd
  stepPtr := rfl
  levels := rfl
  trace := (List.append_nil _).symm
  coming := rfl
  frame := rfl

theorem Serves.trans (hsu : s.Serves a u) (hut : u.Serves b t) : s.Serves (a ++ b) t where
  reaches := hsu.reaches.trans hut.reaches
  writes := hut.writes
  delays := hut.delays
  stepPtr := by rw [hut.stepPtr, hsu.stepPtr, List.length_append, Nat.add_assoc]
  levels := by rw [hut.levels, hsu.levels, List.foldl_append]
  trace := by rw [hut.trace, hsu.trace, hsu.frame_eq, hsu.levels, stepsTrace_append, List.append_assoc]
  coming := by rw [hsu.coming, hut.coming, sequenceEdges, sequenceEdges, sequenceEdges, List.flatMap_append, List.append_assoc]
  frame := by rw [hut.frame, hsu.frame]

/-- After the first steps the later ones are next. -/
theorem Serves.faces (h : s.Serves a t) (hf : s.Faces (a ++ b) es) : t.Faces b es where
  writes := h.writes
  delays := h.delays
  upcoming := by
    have hdrop := hf.upcoming.drop a.length
    rwa [List.drop_left, List.drop_drop, ← h.stepPtr, ← h.sequence] at hdrop
  coming := by
    have hall := hf.coming
    rw [h.coming, sequenceEdges, sequenceEdges, List.flatMap_append, List.append_assoc] at hall
    exact List.append_cancel_left hall

/-- What the controller does between two steps. -/
theorem Serves.controller (h : s.Serves a u) (r : CtrlRegs) (left : List BusByte)
    (hstep : step u = .next ((u.setInbox left).ticked.setCtrl r)) : s.Serves a ((u.setInbox left).ticked.setCtrl r) where
  reaches := h.reaches.snoc hstep
  writes := h.writes
  delays := h.delays
  stepPtr := h.stepPtr
  levels := h.levels
  trace := h.trace
  coming := h.coming
  frame := congrArg (fun v => (v.setInbox left).ticked.setCtrl r) h.frame

theorem pace_goEdge_ne_zero (s : State) : s.pace goEdge ≠ 0 := by
  rw [pace_of_work Nat.one_ne_zero]
  exact Nat.one_ne_zero

theorem quiet_of_inbox (h : t.inbox = s.inbox) (hq : s.quiet) : t.quiet := by rw [State.quiet, h]; exact hq

theorem quiet_of_inbox_nil (h : s.inbox = []) : s.quiet := by rw [State.quiet, h]; rfl

end

/-! Steps that drive a line or swap. -/

/-- R90, R91, R105: all that such a step changes. -/
theorem startStep_instant_eq (s : State) (e : Edge) {st : SeqStep} (hi : st.instant = true) :
    s.startStep e st = { s with
      front := (s.levels.after st).front
      rstLvl := (s.levels.after st).rst
      dcLvl := (s.levels.after st).dc
      stepPtr := s.stepPtr + 1#6
      ctrl := (s.startStep e st).ctrl
      inbox := (s.startStep e st).inbox
      trace := s.trace ++ stepTrace (s.frame s.front) s.rstLvl s.dcLvl true st } := by
  cases st with
  | rst l => rw [startStep, setRstLine_eq]; rfl
  | dc l => rw [startStep, setDcLine_eq]; rfl
  | swap => rfl
  | _ => cases hi

/-- R26: only a reset line that falls is seen at the controller. -/
theorem startStep_instant_ctrl (s : State) (e : Edge) {st : SeqStep} (hi : st.instant = true)
    (hfall : ¬ (s.rstLvl = true ∧ st = .rst false)) :
    (s.startStep e st).ctrl = s.ctrl ∧ (s.startStep e st).inbox = s.inbox := by
  cases st with
  | rst l =>
    have : ¬ (s.rstLvl = true ∧ l = false) := fun h => hfall ⟨h.1, by rw [h.2]⟩
    simp [startStep, this]
  | dc | swap => simp [startStep]
  | _ => cases hi

section
variable {s : State} {st : SeqStep} {rest : List SeqStep} {es : List Edge}

/-- A step that leaves STEP one further has completed. -/
theorem Faces.serves_one {t : State} (hf : s.Faces (st :: rest) es) (hreach : s.Reaches t) (hw : t.wr.active = false)
    (hd : t.dly.active = false)
    (ht : t = { s with
      front := (s.levels.after st).front
      rstLvl := (s.levels.after st).rst
      dcLvl := (s.levels.after st).dc
      stepPtr := s.stepPtr + 1#6
      wr := t.wr
      dly := t.dly
      ctrl := t.ctrl
      inbox := t.inbox
      coming := sequenceEdges rest ++ es
      tick := t.tick
      stalled := t.stalled
      trace := s.trace ++ stepTrace (s.frame s.front) s.rstLvl s.dcLvl true st }) : s.Serves [st] t where
  reaches := hreach
  writes := hw
  delays := hd
  stepPtr := by rw [ht]; exact stepPtr_succ hf.currentStep
  levels := by rw [ht]; rfl
  trace := by rw [ht, stepsTrace, stepsTrace, List.append_nil]; rfl
  coming := by rw [ht, hf.coming]; simp [sequenceEdges]
  frame := by rw [ht]

/-- A step that completes at the edge that starts it. -/
theorem Faces.serves_instant (hf : s.Faces (st :: rest) es) (hq : s.quiet) (hi : st.instant = true) :
    ∃ t, s.Serves [st] t ∧ (¬ (s.rstLvl = true ∧ st = .rst false) → t.ctrl = s.ctrl ∧ t.inbox = s.inbox) ∧
      (s.rstLvl = true ∧ st = .rst false → t.inbox = []) := by
  have hcoming : s.coming = goEdge :: (sequenceEdges rest ++ es) := by
    rw [hf.coming]
    cases st with
    | rst | dc | swap => rfl
    | _ => cases hi
  have hstep := step_starts hq hcoming rfl s.pace_goEdge_ne_zero hf.writes hf.delays hf.currentStep
  have heq := startStep_instant_eq { s with coming := sequenceEdges rest ++ es, tick := s.tick + 1, stalled := 0 } goEdge hi
  refine ⟨_, hf.serves_one (.of_step hstep) (by rw [heq]; exact hf.writes) (by rw [heq]; exact hf.delays) ?_,
    startStep_instant_ctrl { s with coming := sequenceEdges rest ++ es, tick := s.tick + 1, stalled := 0 } goEdge hi, ?_⟩
  · rw [heq]; rfl
  · rintro ⟨hhigh, rfl⟩
    simp [startStep, hhigh]

/-! Delays, and steps that send the controller nothing. -/

/-- R120: a delay that is ended at the edge after its request. -/
theorem Faces.serves_dly {n : Millis} (hf : s.Faces (.dly n :: rest) es) (hq : s.quiet) :
    ∃ t, s.Serves [.dly n] t ∧ t.ctrl = s.ctrl ∧ t.inbox = s.inbox := by
  have hcoming : s.coming = goEdge :: doneEdge :: (sequenceEdges rest ++ es) := hf.coming
  have hrun : s.running := running_of_currentStep hf.currentStep
  obtain ⟨hrequest, -⟩ := delayIsRequestedHeldAndEnded s goEdge _ n hq hcoming rfl hrun hf.writes hf.currentStep
  have hstart := hrequest hf.delays Nat.one_ne_zero
  obtain ⟨-, -, -, hend⟩ := delayIsRequestedHeldAndEnded
    { s with dly := ⟨true, n⟩, coming := doneEdge :: (sequenceEdges rest ++ es), tick := s.tick + 1, stalled := 0 }
    doneEdge _ n hq rfl rfl hrun hf.writes hf.currentStep
  exact ⟨_, hf.serves_one ((Reaches.of_step hstart).snoc (hend rfl rfl)) hf.writes rfl rfl, rfl, rfl⟩

/-- R26, R90: a step that the controller sees nothing of. -/
theorem Faces.serves_silent_one (hf : s.Faces (st :: rest) es) (hq : s.quiet) (hs : st.silent = true) :
    ∃ t, s.Serves [st] t ∧ t.ctrl = s.ctrl ∧ t.inbox = s.inbox := by
  have hinstant (hi : st.instant = true) (hfall : ¬ (s.rstLvl = true ∧ st = .rst false)) :
      ∃ t, s.Serves [st] t ∧ t.ctrl = s.ctrl ∧ t.inbox = s.inbox := by
    obtain ⟨t, hserves, hkeep, -⟩ := hf.serves_instant hq hi
    exact ⟨t, hserves, hkeep hfall⟩
  cases st with
  | rst l =>
    obtain rfl : l = true := hs
    exact hinstant rfl (by simp)
  | dc | swap => exact hinstant rfl (by simp)
  | dly n => exact hf.serves_dly hq
  | _ => cases hs

/-- Such steps one after the other. -/
theorem Faces.serves_silent {steps : List SeqStep} (hf : s.Faces (steps ++ rest) es) (hq : s.quiet)
    (hs : steps.all SeqStep.silent = true) : ∃ t, s.Serves steps t ∧ t.ctrl = s.ctrl ∧ t.inbox = s.inbox := by
  induction steps generalizing s with
  | nil => exact ⟨s, .refl hf.writes hf.delays, rfl, rfl⟩
  | cons st steps ih =>
    rw [List.all_cons, Bool.and_eq_true] at hs
    obtain ⟨u, hsu, hctrl, hin⟩ := Faces.serves_silent_one (rest := steps ++ rest) hf hq hs.1
    obtain ⟨t, hut, hctrl', hin'⟩ := ih (hsu.faces (a := [st]) hf) (quiet_of_inbox hin hq) hs.2
    exact ⟨t, hsu.trans hut, hctrl'.trans hctrl, hin'.trans hin⟩

end

/-! Writes. -/

/-- A write's bytes depend on the front buffer only. -/
theorem writeBytes_congr {s t : State} (hm : t.mem = s.mem) (hf : t.front = s.front) (st : SeqStep) :
    t.writeBytes st = s.writeBytes st := by
  cases st with
  | payload => simp only [writeBytes, payload, hf, entry_of_mem hm]
  | _ => rfl

/-- R90, R91, R160: all that the start of a write changes. -/
theorem startStep_write_eq (s : State) (e : Edge) {st : SeqStep} (hlen : 0 < st.writeLen) :
    s.startStep e st = { s with
      dcLvl := dcAfter s.dcLvl st
      wr := ⟨true, st.writeDc, BitVec.ofNat 14 st.writeLen, 0#14, leavesGap e 0⟩
      trace := s.trace ++ dcTrace s.dcLvl st } := by
  cases st with
  | cmd c => exact congrArg (startWrite · false 1 (leavesGap e 0)) (setDcLine_eq s false)
  | dat ds => exact congrArg (startWrite · true ds.length (leavesGap e 0)) (setDcLine_eq s true)
  | payload => simp [startStep, startWrite, setWr, dcAfter, dcTrace, SeqStep.writeDc, SeqStep.writeLen]
  | _ => cases hlen

/-- R13: the events of a step that writes: the DC line's, then the write's. -/
theorem stepTrace_write (s : State) (ok : Bool) {st : SeqStep} (hlen : 0 < st.writeLen) :
    stepTrace (s.frame s.front) s.rstLvl s.dcLvl ok st = dcTrace s.dcLvl st ++ [.wr st.writeDc (s.writeBytes st) ok] := by
  cases st with
  | cmd | dat => cases s.dcLvl <;> rfl
  | payload => simp [stepTrace, dcTrace, dcAfter, SeqStep.writeDc, writeBytes, payload, frame]
  | _ => cases hlen

section
variable {s : State} {st : SeqStep} {es : List Edge}

/-- R160: WR_LEN holds the length of the step's write. -/
theorem writeLen_fits (hst : s.currentStep = some st) : (BitVec.ofNat 14 st.writeLen).toNat = st.writeLen :=
  Nat.mod_eq_of_lt (SeqStep.writeLen_lt (currentStep_wellFormed hst))

/-- R162: the transport takes the byte on offer. -/
theorem step_takes_byte (hq : s.quiet) (hst : s.currentStep = some st) (hw : s.wr.active = true) (hgap : s.wr.gap = false)
    (hlt : s.wr.pos.toNat < s.wr.len.toNat) (hcoming : s.coming = readyEdge :: es) :
    step s = .next { s with wr := { s.wr with pos := s.wr.pos + 1#14 }, coming := es, tick := s.tick + 1, stalled := 0 } := by
  have hunsent : s.wr.unsent = true := by simp [Writer.unsent, hw, BitVec.lt_def, hlt]
  have hoffer : s.wr.offer readyEdge s.stalled = { s.wr with pos := s.wr.pos + 1#14 } := by
    simp [Writer.offer, hgap, readyEdge, stillEdge, leavesGap]
  rw [step_writes hq hcoming rfl hst hw, writeEdge, if_pos hunsent]
  simp only [offerByte, hoffer, hgap]
  rfl

/-- R162: the transport takes the next `n` bytes. -/
theorem reaches_bytes_taken {n : Nat} (hq : s.quiet) (hst : s.currentStep = some st) (hw : s.wr.active = true)
    (hgap : s.wr.gap = false) (hle : s.wr.pos.toNat + n ≤ s.wr.len.toNat) (hcoming : s.coming = List.replicate n readyEdge ++ es) :
    ∃ t, s.Reaches t ∧ t.wr.pos.toNat = s.wr.pos.toNat + n ∧
      t = { s with wr := { s.wr with pos := t.wr.pos }, coming := es, tick := t.tick, stalled := t.stalled } := by
  induction n generalizing s with
  | zero => exact ⟨s, .refl s, rfl, by rw [← show s.coming = es from hcoming]⟩
  | succ n ih =>
    have hlen := s.wr.len.isLt
    have hpos : (s.wr.pos + 1#14).toNat = s.wr.pos.toNat + 1 := by
      rw [BitVec.toNat_add, BitVec.toNat_ofNat]
      omega
    have hstep := step_takes_byte hq hst hw hgap (by omega) hcoming
    obtain ⟨t, hreach, hsent, ht⟩ := ih (s := { s with
        wr := { s.wr with pos := s.wr.pos + 1#14 }, coming := List.replicate n readyEdge ++ es, tick := s.tick + 1, stalled := 0 })
      hq hst hw hgap (show (s.wr.pos + 1#14).toNat + n ≤ s.wr.len.toNat by omega) rfl
    exact ⟨t, (Reaches.of_step hstep).trans hreach, by rw [hsent, hpos]; omega, ht⟩

/-- R160, R162: a step's write has been started and the transport has taken its first `n` bytes. -/
theorem reaches_bytes_sent {n : Nat} (hq : s.quiet) (hst : s.currentStep = some st) (hlen : 0 < st.writeLen)
    (hw : s.wr.active = false) (hd : s.dly.active = false) (hn : n ≤ st.writeLen) (hcoming : s.coming = bytesEdges n ++ es) :
    ∃ t, s.Reaches t ∧ t.wr.pos.toNat = n ∧
      t = { s with
        dcLvl := dcAfter s.dcLvl st
        wr := ⟨true, st.writeDc, BitVec.ofNat 14 st.writeLen, t.wr.pos, false⟩
        coming := es
        tick := t.tick
        stalled := t.stalled
        trace := s.trace ++ dcTrace s.dcLvl st } := by
  have hfit := writeLen_fits hst
  have hstart := step_starts hq hcoming rfl s.pace_goEdge_ne_zero hw hd hst
  rw [startStep_write_eq _ goEdge hlen] at hstart
  obtain ⟨t, hreach, hpos, ht⟩ := reaches_bytes_taken (s := { s with
      dcLvl := dcAfter s.dcLvl st
      wr := ⟨true, st.writeDc, BitVec.ofNat 14 st.writeLen, 0#14, false⟩
      coming := List.replicate n readyEdge ++ es
      tick := s.tick + 1
      stalled := 0
      trace := s.trace ++ dcTrace s.dcLvl st })
    (es := es) hq hst rfl rfl (by rw [hfit]; exact (Nat.zero_add n).le.trans hn) rfl
  exact ⟨t, (Reaches.of_step hstart).trans hreach, hpos.trans (Nat.zero_add n), ht⟩

/-- R163: the transport answers `ok` after the last byte. -/
theorem step_completes_write (hq : s.quiet) (hst : s.currentStep = some st) (hw : s.wr.active = true)
    (hunsent : s.wr.unsent = false) (hcoming : s.coming = okEdge :: es) :
    step s = .next (({ s with coming := es, tick := s.tick + 1 } : State).completeWrite st) := by
  rw [step_writes hq hcoming rfl hst hw, writeEdge, if_neg (by simp [hunsent])]
  rfl

/-- R163: a write whose every byte is taken and which is answered `ok`. -/
theorem Faces.serves_write {rest : List SeqStep} (hf : s.Faces (st :: rest) es) (hq : s.quiet) (hlen : 0 < st.writeLen) :
    ∃ t, s.Serves [st] t ∧ t.ctrl = s.ctrl ∧ t.inbox = s.inbox ++ (s.writeBytes st).map (fun b => ⟨st.writeDc, b⟩) := by
  have hcoming : s.coming = bytesEdges st.writeLen ++ okEdge :: (sequenceEdges rest ++ es) := by
    rw [hf.coming]
    cases st with
    | cmd | dat | payload => simp [sequenceEdges, stepEdges, SeqStep.writeLen]
    | _ => cases hlen
  have hst := hf.currentStep
  have hfit := writeLen_fits hst
  obtain ⟨u, hreach, hpos, hu⟩ := reaches_bytes_sent hq hst hlen hf.writes hf.delays le_rfl hcoming
  have hunsent : u.wr.unsent = false := by
    have hwr : u.wr = ⟨true, st.writeDc, BitVec.ofNat 14 st.writeLen, u.wr.pos, false⟩ := by rw [hu]
    rw [hwr]
    simp [Writer.unsent, BitVec.lt_def, hpos, hfit]
  have hend := step_completes_write (s := u) (st := st) (by rw [hu]; exact hq) (by rw [hu]; exact hst) (by rw [hu]) hunsent
    (by rw [hu])
  have hbytes : u.writeBytes st = s.writeBytes st := writeBytes_congr (by rw [hu]) (by rw [hu]) st
  rw [completeWrite_eq] at hend
  refine ⟨_, hf.serves_one (hreach.snoc hend) rfl ?_ ?_, ?_, ?_⟩
  · rw [hu]; exact hf.delays
  · rw [Levels.after_write _ hlen, stepTrace_write _ _ hlen, ← hbytes, ← List.append_assoc, hu]
    rfl
  · rw [hu]
  · rw [← hbytes, hu]; rfl

end

end State
end Sys2Proof.Machine
end

section
/-! SUPPORT. What the controller makes of the commands and the frame a sequence sends (spec/30_encoding.md R88, R89;
spec/41_register_init_fsm.md R126, R127), and a whole INIT (R133). -/

namespace Sys2Proof

theorem leadingData_map (bytes : List Byte) : leadingData (bytes.map fun b => ⟨true, b⟩) = bytes := by
  induction bytes with
  | nil => rfl
  | cons b bytes ih => simp [leadingData, ih]

theorem afterData_map (bytes : List Byte) : afterData (bytes.map fun b => ⟨true, b⟩) = [] := by
  induction bytes with
  | nil => rfl
  | cons b bytes ih => simp [afterData, ih]

/-- R63: data bytes with no command before them are read all at once. -/
theorem readStream_map {bytes : List Byte} (h : bytes ≠ []) : readStream (bytes.map fun b => ⟨true, b⟩) = .data bytes [] := by
  cases bytes with
  | nil => exact absurd rfl h
  | cons b bytes => simp [readStream, leadingData, afterData, leadingData_map, afterData_map]

/-- R88: the controller waits for the arguments of a command that has any. -/
theorem readStream_byte {c : CtrlCmd} (h : c.argCount ≠ 0) : readStream [⟨false, c.byte⟩] = .waiting := by
  obtain ⟨n, hn⟩ := Nat.exists_eq_succ_of_ne_zero h
  simp [readStream, CtrlCmd.ofByte_byte, hn, takeArgs]

namespace Machine

/-! Commands. -/

/-- R90: the steps that send a command of the controller's stream with its argument bytes. -/
def commandSteps (p : CtrlCmd × List Byte) : List SeqStep :=
  .cmd p.1.byte :: match p.2 with
    | [] => []
    | a :: args => [.dat (a :: args)]

/-- What an instruction of the controller's stream makes of the controller's registers. -/
def ctrlAfterInstr (r : CtrlRegs) (i : Instr) : CtrlRegs :=
  match exec i (State.reset.setCtrl r) with
  | .next t => t.ctrl
  | .fault _ => r
  | .refused _ => r

/-- What a command, whole or not, makes of the controller's registers. -/
def ctrlAfter (r : CtrlRegs) (p : CtrlCmd × List Byte) : CtrlRegs := ((p.1.build p.2).map (ctrlAfterInstr r)).getD r

/-- R40, R89: a command of the controller's stream, run in any state, makes of the registers what `ctrlAfter` says. -/
theorem exec_ctrlAfter {c : CtrlCmd} {args : List Byte} {i : Instr} (h : c.build args = some i) (s : State) :
    exec i s = .next (s.setCtrl (ctrlAfter s.ctrl (c, args))) := by
  simp only [ctrlAfter, h]
  rcases args with _ | ⟨a, _ | ⟨b, _ | ⟨d, rest⟩⟩⟩ <;> cases c <;> cases h <;> rfl

namespace State

/-- R88: a command is sent. -/
theorem Faces.serves_commandSteps {s : State} {p : CtrlCmd × List Byte} {rest : List SeqStep} {es : List Edge}
    (hf : s.Faces (commandSteps p ++ rest) es) (hin : s.inbox = []) (hargs : p.2.length = p.1.argCount) :
    ∃ t, s.Serves (commandSteps p) t ∧ t.ctrl = s.ctrl ∧ t.inbox = p.1.items p.2 := by
  obtain ⟨c, args⟩ := p
  obtain ⟨u, hsu, hctrl, hu⟩ := hf.serves_write (quiet_of_inbox_nil hin) Nat.one_pos
  rw [hin] at hu
  cases args with
  | nil => exact ⟨u, hsu, hctrl, hu⟩
  | cons a args =>
    have hq' : u.quiet := by
      rw [State.quiet, hu]
      exact readStream_byte (hargs ▸ Nat.succ_ne_zero _)
    obtain ⟨t, hut, hctrl', ht⟩ := (hsu.faces (a := [.cmd c.byte]) hf).serves_write hq' (Nat.succ_pos _)
    rw [hu] at ht
    exact ⟨t, hsu.trans hut, hctrl'.trans hctrl, ht⟩

/-- R88, R89: a command is sent, and the controller runs it. -/
theorem Faces.serves_command {s : State} {p : CtrlCmd × List Byte} {rest : List SeqStep} {es : List Edge}
    (hf : s.Faces (commandSteps p ++ rest) es) (hin : s.inbox = []) (hargs : p.2.length = p.1.argCount) :
    ∃ t, s.Serves (commandSteps p) t ∧ t.inbox = [] ∧ t.ctrl = ctrlAfter s.ctrl p := by
  obtain ⟨u, hsu, hctrl, hu⟩ := hf.serves_commandSteps hin hargs
  obtain ⟨i, hbuild⟩ := Option.isSome_iff_exists.1 (CtrlCmd.build_isSome hargs)
  have hread : readStream u.inbox = .command i [] := by
    rw [hu, ← List.append_nil (p.1.items p.2)]
    exact readStream_items hbuild []
  have hstep := stepRunsTheControllerCommand u i [] hread
  rw [exec_ctrlAfter hbuild] at hstep
  exact ⟨_, hsu.controller _ [] hstep, rfl, by rw [← hctrl]; rfl⟩

/-- Commands one after the other. -/
theorem Faces.serves_commands {s : State} {cs : List (CtrlCmd × List Byte)} {rest : List SeqStep} {es : List Edge}
    (hf : s.Faces (cs.flatMap commandSteps ++ rest) es) (hin : s.inbox = [])
    (hargs : ∀ p ∈ cs, p.2.length = p.1.argCount) :
    ∃ t, s.Serves (cs.flatMap commandSteps) t ∧ t.inbox = [] ∧ t.ctrl = cs.foldl ctrlAfter s.ctrl := by
  induction cs generalizing s with
  | nil => exact ⟨s, .refl hf.writes hf.delays, hin, rfl⟩
  | cons p cs ih =>
    rw [List.flatMap_cons, List.append_assoc] at hf
    obtain ⟨u, hsu, hu, hctrl⟩ := hf.serves_command hin (hargs p (List.mem_cons_self ..))
    obtain ⟨t, hut, ht, hctrl'⟩ := ih (hsu.faces hf) hu fun q hq => hargs q (List.mem_cons_of_mem p hq)
    exact ⟨t, hsu.trans hut, ht, by rw [hctrl', hctrl]; rfl⟩

/-! The frame. -/

/-- R63, R147: the payload goes to the controller's RAM and begins a new frame there. -/
theorem Faces.serves_payload {s : State} {rest : List SeqStep} {es : List Edge} (hf : s.Faces (.payload :: rest) es)
    (hin : s.inbox = []) (hopen : s.ctrl.ramOpen = true) (hfresh : s.ctrl.ramFresh = true) :
    ∃ t, s.Serves [.payload] t ∧ t.inbox = [] ∧ t.ctrl = { s.ctrl with ramFresh := false, ram := s.frame s.front } := by
  obtain ⟨u, hsu, hctrl, hu⟩ := hf.serves_write (quiet_of_inbox_nil hin) (Nat.succ_pos _)
  have hne : s.writeBytes .payload ≠ [] := by
    rw [ne_eq, ← List.length_eq_zero_iff, writeBytes_length]
    exact Nat.succ_ne_zero _
  rw [hin, List.nil_append, SeqStep.writeDc] at hu
  have hread : readStream u.inbox = .data (s.writeBytes .payload) [] := by rw [hu]; exact readStream_map hne
  have hstep : step u = .next ((u.setInbox []).ticked.takeData (s.writeBytes .payload)) := by
    simp only [step, State.nextAction, hread]
  rw [takeData_eq, ticked_ctrl, setInbox_ctrl, hctrl, if_pos hopen, if_pos hfresh] at hstep
  exact ⟨_, hsu.controller _ [] hstep, rfl, rfl⟩

end State

/-- R141: the commands of the frame's steps. -/
def windowCommands (c : Config) : List (CtrlCmd × List Byte) :=
  [(.columnAddress, [c.colStart, c.colEnd]), (.rowAddress, [c.rowStart, c.rowEnd]), (.writeRam, [])]

theorem frameSteps_eq (c : Config) :
    frameSteps c = (windowCommands c).flatMap commandSteps ++ ([SeqStep.dc true, SeqStep.swap] ++ [SeqStep.payload]) := rfl

namespace State

/-- R127, R141: the window is programmed, the buffers change places, and the new front buffer goes to the controller. -/
theorem Faces.serves_frameSteps {s : State} {c : Config} {rest : List SeqStep} {es : List Edge}
    (hf : s.Faces (frameSteps c ++ rest) es) (hin : s.inbox = []) :
    ∃ t, s.Serves (frameSteps c) t ∧ t.inbox = [] ∧
      t.ctrl = { s.ctrl with colStart := c.colStart, colEnd := c.colEnd, rowStart := c.rowStart,
                             rowEnd := c.rowEnd, ramOpen := true, ramFresh := false, ram := s.frame s.back } := by
  simp only [frameSteps_eq, List.append_assoc] at hf ⊢
  have hargs : ∀ p ∈ windowCommands c, p.2.length = p.1.argCount := by simp [windowCommands, CtrlCmd.argCount]
  obtain ⟨u₁, h₁, hin₁, hctrl₁⟩ := hf.serves_commands hin hargs
  have hf₁ := h₁.faces hf
  obtain ⟨u₂, h₂, hctrl₂, hin₂⟩ := hf₁.serves_silent (quiet_of_inbox_nil hin₁) rfl
  have hbefore := h₁.trans h₂
  have hctrl : u₂.ctrl = (windowCommands c).foldl ctrlAfter s.ctrl := hctrl₂.trans hctrl₁
  have hfront : u₂.front = s.back := congrArg Levels.front hbefore.levels
  obtain ⟨t, h₃, hin₃, hctrl₃⟩ := (h₂.faces hf₁).serves_payload (hin₂.trans hin₁) (by rw [hctrl]; rfl) (by rw [hctrl]; rfl)
  refine ⟨t, h₁.trans (h₂.trans h₃), hin₃, ?_⟩
  rw [hctrl₃, hctrl, hfront, hbefore.frame_eq]
  rfl

end State

/-! INIT. -/

/-- R126: the commands of INIT's steps 5 to 24. -/
def programmingCommands (c : Config) : List (CtrlCmd × List Byte) :=
  [(.clockDivider, [c.clkDivArg]), (.muxRatio, [c.muxArg]), (.columnAddress, [c.colStart, c.colEnd]),
   (.rowAddress, [c.rowStart, c.rowEnd]), (.startLine, [c.startLineArg]), (.offsetLine, [c.offsetArg]),
   (.remap, [c.remapA, c.remapB]), (.normalMode, []), (.displayOff, []), (.enhancementA, [c.enhA1, c.enhA2]),
   (.enhancementB, [c.enhB1, c.enhB2])]

/-- R126: every register the commands name has its value, the display is off, and the RAM keeps its frame. -/
theorem foldl_programmingCommands (c : Config) (r : CtrlRegs) :
    (programmingCommands c).foldl ctrlAfter r =
      ⟨c.clkDivArg, c.muxArg, c.colStart, c.colEnd, c.rowStart, c.rowEnd, c.startLineArg, c.offsetArg, c.remapA, c.remapB, .normal,
        false, c.enhA1, c.enhA2, c.enhB1, c.enhB2, false, r.ramFresh, r.ram⟩ := rfl

theorem registerProgramming_eq (c : Config) : registerProgramming c = (programmingCommands c).flatMap commandSteps := rfl

theorem resetPulse_eq (c : Config) :
    resetPulse c = [SeqStep.rst true] ++
      ([SeqStep.rst false] ++ [SeqStep.dly c.tRstLow, SeqStep.rst true, SeqStep.dly c.tRstHold]) := rfl

namespace State

/-- R125: the reset pulse leaves nothing half received at the controller (log entry 6). -/
theorem Faces.serves_resetPulse {s : State} {c : Config} {rest : List SeqStep} {es : List Edge}
    (hf : s.Faces (resetPulse c ++ rest) es) (hq : s.quiet) : ∃ t, s.Serves (resetPulse c) t ∧ t.inbox = [] := by
  simp only [resetPulse_eq, List.append_assoc] at hf ⊢
  obtain ⟨u₁, h₁, -, hin₁⟩ := hf.serves_silent hq rfl
  have hf₁ := h₁.faces hf
  obtain ⟨u₂, h₂, -, hvoid⟩ := hf₁.serves_instant (quiet_of_inbox hin₁ hq) rfl
  have hin₂ : u₂.inbox = [] := hvoid ⟨congrArg Levels.rst h₁.levels, rfl⟩
  obtain ⟨t, h₃, -, hin₃⟩ := (h₂.faces hf₁).serves_silent (quiet_of_inbox_nil hin₂) rfl
  exact ⟨t, h₁.trans (h₂.trans h₃), hin₃.trans hin₂⟩

/-- R126, R127: the controller is programmed, has the frame, and is turned on. -/
theorem Faces.serves_programming {s : State} {c : Config} {rest : List SeqStep} {es : List Edge}
    (hf : s.Faces (registerProgramming c ++ (frameSteps c ++ (commandSteps (.displayOn, []) ++ rest))) es) (hin : s.inbox = []) :
    ∃ t, s.Serves (registerProgramming c ++ (frameSteps c ++ commandSteps (.displayOn, []))) t ∧ t.inbox = [] ∧
      t.ctrl = programmed c (s.frame s.back) := by
  rw [registerProgramming_eq] at hf ⊢
  have hargs : ∀ p ∈ programmingCommands c, p.2.length = p.1.argCount := by simp [programmingCommands, CtrlCmd.argCount]
  obtain ⟨u₁, h₁, hin₁, hctrl₁⟩ := hf.serves_commands hin hargs
  have hf₁ := h₁.faces hf
  obtain ⟨u₂, h₂, hin₂, hctrl₂⟩ := hf₁.serves_frameSteps hin₁
  obtain ⟨t, h₃, hin₃, hctrl₃⟩ := (h₂.faces hf₁).serves_command hin₂ rfl
  have hback : u₁.back = s.back := congrArg (fun l => l.front ^^^ 1#1) h₁.levels
  refine ⟨t, h₁.trans (h₂.trans h₃), hin₃, ?_⟩
  rw [hctrl₃, hctrl₂, hctrl₁, foldl_programmingCommands, h₁.frame_eq, hback]
  generalize s.frame s.back = frame
  rfl

end State

/-- R124: INIT's steps 0 to 34, without DONE. -/
def initSteps (c : Config) : List SeqStep :=
  resetPulse c ++ ((registerProgramming c ++ (frameSteps c ++ commandSteps (.displayOn, []))) ++ [.dly c.tOnSettle])

/-- R133: the events of INIT's steps. -/
theorem stepsTrace_initSteps (c : Config) (frame : BitVec 1 → List Byte) (front : BitVec 1) (dc : Bool) :
    stepsTrace frame ⟨front, true, dc⟩ (initSteps c) = initTrace c dc (frame (front ^^^ 1#1)) := by
  cases dc <;> rfl

namespace State

/-- R124: INIT runs up to its DONE. -/
theorem Faces.serves_initSteps {s : State} {c : Config} {es : List Edge} (hf : s.Faces (initSteps c ++ [.done]) es) (hq : s.quiet) :
    ∃ t, s.Serves (initSteps c) t ∧ t.inbox = [] ∧ t.ctrl = programmed c (s.frame s.back) := by
  simp only [initSteps, List.append_assoc] at hf
  obtain ⟨u₁, h₁, hin₁⟩ := hf.serves_resetPulse hq
  have hf₁ := h₁.faces hf
  obtain ⟨u₂, h₂, hin₂, hctrl₂⟩ := hf₁.serves_programming hin₁
  obtain ⟨t, h₃, hctrl₃, hin₃⟩ := (h₂.faces hf₁).serves_silent (quiet_of_inbox_nil hin₂) rfl
  have hback : u₁.back = s.back := congrArg (fun l => l.front ^^^ 1#1) h₁.levels
  refine ⟨t, h₁.trans (h₂.trans h₃), hin₃.trans hin₂, ?_⟩
  rw [hctrl₃, hctrl₂, h₁.frame_eq, hback]

/-- R123: INIT has been accepted. -/
def initAccepted (s : State) (w : HostWord) (es : List Edge) : State :=
  { s with phase := .initSeq, stepPtr := 0#6, initDone := false, cur := { s.cur with op := 0b10#2 }, coming := es,
           tick := s.tick + 1, trace := s.trace ++ [.cmd w] }

end State

/-- R123: the edge that accepts INIT. -/
theorem step_accepts_init {s : State} {w : HostWord} {es : List Edge} (hq : s.quiet) (hp : s.phase = .idle)
    (hw : wordOp w = 0b10#2) (hcoming : s.coming = offerEdge w :: es) : step s = .next (s.initAccepted w es) := by
  obtain ⟨haccept, -⟩ := stepRunsTheHostCommand s (offerEdge w) es hq hcoming rfl hp
  have hdecode : decodeHost (offerEdge w).cmdWord = .init := decodeHost_init hw
  rw [hdecode] at haccept
  exact (haccept rfl).trans (initStartsItsSequence _ hp)

/-- Settles O52: one edge accepts the command, the steps before DONE are served (`State.Faces.serves_initSteps`), and DONE answers. -/
theorem initRunsToReady : Obligations.InitRunsToReady := by
  intro s w rest hp hq hwr hdly hrst hw hcoming
  have haccept := step_accepts_init hq hp hw hcoming
  have hf : (s.initAccepted w (sequenceEdges (initSequence s.cfg) ++ rest)).Faces (initSteps s.cfg ++ [.done]) rest :=
    ⟨hwr, hdly, List.prefix_refl _, rfl⟩
  obtain ⟨u, hserves, hin, hctrl⟩ := hf.serves_initSteps hq
  have hlast := hserves.faces hf
  obtain ⟨-, hdone, -⟩ := swapAndDoneCompleteAtOnce u goEdge rest (State.quiet_of_inbox_nil hin) hlast.coming rfl Nat.one_ne_zero
    hserves.writes hserves.delays
  obtain ⟨n, hrun⟩ := ((State.Reaches.of_step haccept).trans hserves.reaches).snoc (hdone hserves.phase hlast.currentStep)
  have hstart : (s.initAccepted w (sequenceEdges (initSequence s.cfg) ++ rest)).levels = ⟨s.front, true, s.dcLvl⟩ := by
    rw [← hrst]; rfl
  have hlevels : u.levels = ⟨s.front ^^^ 1#1, true, false⟩ := by rw [hserves.levels, hstart]; rfl
  have htrace := hserves.trace
  rw [hstart, stepsTrace_initSteps] at htrace
  exact ⟨n, _, hrun, rfl, rfl, rfl, congrArg Levels.front hlevels, hserves.mem, congrArg Levels.rst hlevels,
    congrArg Levels.dc hlevels, BitVec.eq_of_toNat_eq hserves.stepPtr, htrace, hctrl, hin, rfl⟩

end Machine
end Sys2Proof
end

section
/-! SUPPORT. FLUSH's acceptance and its table (spec/42_ram_window_sequencer.md R140, R141), and a whole FLUSH (R148). -/

namespace Sys2Proof.Machine

/-- Settles O16: IDLE accepts the command. -/
theorem flushStartsItsSequence : Obligations.FlushStartsItsSequence := fun _ hp => State.whenReady_idle _ hp

/-- R127: INIT's steps from 25 on begin with those of the frame. -/
theorem initSequence_getElem?_add (c : Config) {k : Nat} (hk : k < 8) : (initSequence c)[25 + k]? = (frameSteps c)[k]? := by
  have hbefore : (resetPulse c ++ registerProgramming c).length = 25 := rfl
  rw [initSequence, List.append_assoc, List.getElem?_append_right (by omega), hbefore, Nat.add_sub_cancel_left,
    List.getElem?_append_left hk]

/-- Settles O19: the list is the frame's steps and DONE, and INIT runs the frame's steps in place (`initSequence_getElem?_add`). -/
theorem flushSequenceIsTheTable : Obligations.FlushSequenceIsTheTable := by
  refine ⟨fun _ => ⟨rfl, rfl⟩, fun c k hk => ?_, rfl, rfl, rfl, rfl⟩
  rw [initSequence_getElem?_add c hk, flushSequence, List.getElem?_append_left hk]

/-- R140: FLUSH has been accepted. -/
def State.flushAccepted (s : State) (w : HostWord) (es : List Edge) : State :=
  { s with phase := .flushSeq, stepPtr := 0#6, cur := { s.cur with op := 0b11#2 }, coming := es, tick := s.tick + 1,
           trace := s.trace ++ [.cmd w] }

/-- R140: the edge that accepts FLUSH. -/
theorem step_accepts_flush {s : State} {w : HostWord} {es : List Edge} (hq : s.quiet) (hp : s.phase = .idle)
    (hw : wordOp w = 0b11#2) (hcoming : s.coming = offerEdge w :: es) : step s = .next (s.flushAccepted w es) := by
  obtain ⟨haccept, -⟩ := stepRunsTheHostCommand s (offerEdge w) es hq hcoming rfl hp
  have hdecode : decodeHost (offerEdge w).cmdWord = .flush := decodeHost_flush hw
  rw [hdecode] at haccept
  exact (haccept rfl).trans (flushStartsItsSequence _ hp)

/-- R148: the events of the frame's steps. -/
theorem stepsTrace_frameSteps (c : Config) (frame : BitVec 1 → List Byte) (l : Levels) :
    stepsTrace frame l (frameSteps c) = (if l.dc = true then [.dc false] else []) ++ flushTrace c (frame (l.front ^^^ 1#1)) := by
  obtain ⟨front, rst, dc⟩ := l
  cases dc <;> rfl

/-- Settles O51: one edge accepts the command, the steps before DONE are served (`State.Faces.serves_frameSteps`), and DONE answers. -/
theorem flushRunsToItsAnswer : Obligations.FlushRunsToItsAnswer := by
  intro s w rest hp hin hwr hdly hw hcoming
  have haccept := step_accepts_flush (State.quiet_of_inbox_nil hin) hp hw hcoming
  have hf : (s.flushAccepted w (sequenceEdges (flushSequence s.cfg) ++ rest)).Faces (frameSteps s.cfg ++ [.done]) rest :=
    ⟨hwr, hdly, List.prefix_refl _, rfl⟩
  obtain ⟨u, hserves, hin', hctrl⟩ := hf.serves_frameSteps hin
  have hlast := hserves.faces hf
  obtain ⟨-, -, hdone⟩ := swapAndDoneCompleteAtOnce u goEdge rest (State.quiet_of_inbox_nil hin') hlast.coming rfl Nat.one_ne_zero
    hserves.writes hserves.delays
  obtain ⟨n, hrun⟩ := ((State.Reaches.of_step haccept).trans hserves.reaches).snoc (hdone hserves.phase hlast.currentStep)
  have hinit : u.initDone = s.initDone := by rw [hserves.frame]; rfl
  have htrace := hserves.trace
  rw [stepsTrace_frameSteps, ← List.append_assoc] at htrace
  exact ⟨n, _, hrun, rfl, rfl, congrArg Levels.front hserves.levels, hserves.mem, hinit, congrArg Levels.dc hserves.levels,
    congrArg Levels.rst hserves.levels, BitVec.eq_of_toNat_eq hserves.stepPtr, htrace, hctrl, hin', rfl⟩

end Sys2Proof.Machine
end

section
/-! SUPPORT. What the controller still waits for (spec/30_encoding.md R88): a stream without stray data leaves the frame in its RAM
alone (R63, R144), and the controller comes to the end of every stream that holds its commands only. -/

namespace Sys2Proof

/-- R88: how many argument bytes are still to come after the bytes of a stream, `n` of them before it; `none` if the stream holds
data that no command asked for, or a byte under DC = 0 that is no command. -/
def awaits : Nat → List BusByte → Option Nat
  | n, [] => some n
  | _, ⟨false, b⟩ :: rest => (CtrlCmd.ofByte b).bind fun c => awaits c.argCount rest
  | n + 1, ⟨true, _⟩ :: rest => awaits n rest
  | 0, ⟨true, _⟩ :: _ => none

theorem awaits_append (n : Nat) (a b : List BusByte) : awaits n (a ++ b) = (awaits n a).bind fun m => awaits m b := by
  induction a generalizing n with
  | nil => rfl
  | cons x a ih =>
    obtain ⟨_ | _, v⟩ := x
    · cases hc : CtrlCmd.ofByte v <;> simp [awaits, hc, ih]
    · cases n <;> simp [awaits, ih]

theorem awaits_isSome_of_prefix {n : Nat} {a b : List BusByte} (hab : a <+: b) (hb : (awaits n b).isSome = true) :
    (awaits n a).isSome = true := by
  obtain ⟨c, rfl⟩ := hab
  rw [awaits_append] at hb
  exact Option.isSome_of_isSome_bind hb

/-- R180: such a stream holds no unknown command. -/
theorem ofByte_isSome_of_awaits {n : Nat} {items : List BusByte} (h : (awaits n items).isSome = true) :
    ∀ b ∈ items, b.dc = false → (CtrlCmd.ofByte b.byte).isSome = true := by
  induction items generalizing n with
  | nil => simp
  | cons x items ih =>
    obtain ⟨_ | _, v⟩ := x
    · obtain ⟨m, hm⟩ := Option.isSome_iff_exists.1 h
      obtain ⟨c, hc, hrest⟩ := Option.bind_eq_some_iff.1 hm
      simpa [hc] using ih (Option.isSome_of_eq_some hrest)
    · cases n with
      | zero => cases h
      | succ n => simpa using ih (n := n) h

/-- R88: once a command has its arguments, or is cut short, what follows is read from the start. -/
theorem awaits_of_takeArgs {n : Nat} {items rest : List BusByte}
    (h : (∃ args, takeArgs n items = .got args rest) ∨ takeArgs n items = .cut rest) : awaits n items = awaits 0 rest := by
  induction n generalizing items with
  | zero =>
    obtain rfl : items = rest := by simpa [takeArgs] using h
    rfl
  | succ n ih =>
    obtain _ | ⟨⟨_ | _, v⟩, items⟩ := items
    · simp [takeArgs] at h
    · obtain rfl : ⟨false, v⟩ :: items = rest := by simpa [takeArgs] using h
      rfl
    · refine ih ?_
      cases hr : takeArgs n items <;> simp_all [takeArgs, ArgsRead.cons]

theorem awaits_isSome_of_more {n : Nat} {items : List BusByte} (h : takeArgs n items = .more) : (awaits n items).isSome = true := by
  induction n generalizing items with
  | zero => simp [takeArgs] at h
  | succ n ih =>
    obtain _ | ⟨⟨_ | _, v⟩, items⟩ := items
    · rfl
    · simp [takeArgs] at h
    · refine ih (items := items) ?_
      cases hr : takeArgs n items <;> simp_all [takeArgs, ArgsRead.cons]

/-- R88: what the controller reads first, where no data is stray: nothing whole, a command, or a command that is cut short. -/
theorem readStream_of_awaits {items : List BusByte} {n : Nat} (h : awaits 0 items = some n) :
    readStream items = .waiting ∨
      ∃ rest, awaits 0 rest = some n ∧ ((∃ i, readStream items = .command i rest) ∨ readStream items = .cutShort rest) := by
  obtain _ | ⟨⟨_ | _, v⟩, items⟩ := items
  · exact .inl rfl
  · obtain ⟨c, hc, hrest⟩ := Option.bind_eq_some_iff.1 h
    cases hargs : takeArgs c.argCount items with
    | more => exact .inl (by simp [readStream, hc, hargs])
    | cut r => exact .inr ⟨r, awaits_of_takeArgs (.inr hargs) ▸ hrest, .inr (by simp [readStream, hc, hargs])⟩
    | got args r =>
      obtain ⟨i, hi⟩ := Option.isSome_iff_exists.1 (CtrlCmd.build_isSome (takeArgs_got hargs).1)
      exact .inr ⟨r, awaits_of_takeArgs (.inl ⟨args, hargs⟩) ▸ hrest, .inl ⟨i, by simp [readStream, hc, hargs, hi]⟩⟩
  · cases h

/-- R88: a controller that waits has had no stray data. -/
theorem awaits_isSome_of_waiting {items : List BusByte} (h : readStream items = .waiting) : (awaits 0 items).isSome = true := by
  obtain _ | ⟨⟨_ | _, v⟩, items⟩ := items
  · rfl
  · simp only [readStream] at h
    cases hc : CtrlCmd.ofByte v with
    | none => simp [hc] at h
    | some c =>
      cases hargs : takeArgs c.argCount items with
      | more => simpa [awaits, hc] using awaits_isSome_of_more hargs
      | cut r => simp [hc, hargs] at h
      | got args r =>
        obtain ⟨i, hi⟩ := Option.isSome_iff_exists.1 (CtrlCmd.build_isSome (takeArgs_got hargs).1)
        simp [hc, hargs, hi] at h
  · cases h

/-- R90: `awaits` for the bytes of a step; `none` for RST, PAYLOAD and DONE, which are no part of a command. -/
def SeqStep.argsAfter : SeqStep → Nat → Option Nat
  | .cmd c, n => awaits n [⟨false, c⟩]
  | .dat ds, n => awaits n (ds.map fun d => ⟨true, d⟩)
  | .dly _, n | .dc _, n | .swap, n => some n
  | .rst _, _ | .payload, _ | .done, _ => none

/-- R90: `awaits` for the bytes of a list of steps. -/
def argsAfterSteps (n : Nat) (steps : List SeqStep) : Option Nat := steps.foldlM (fun m st => st.argsAfter m) n

theorem argsAfterSteps_append (n : Nat) (a b : List SeqStep) :
    argsAfterSteps n (a ++ b) = (argsAfterSteps n a).bind fun m => argsAfterSteps m b := List.foldlM_append

theorem argsAfterSteps_singleton (n : Nat) (st : SeqStep) : argsAfterSteps n [st] = st.argsAfter n := by
  simp [argsAfterSteps]

namespace Machine
namespace State

theorem awaits_writeBytes (s : State) {st : SeqStep} (hlen : 0 < st.writeLen) {m n : Nat} (h : st.argsAfter m = some n) :
    awaits m ((s.writeBytes st).map fun b => ⟨st.writeDc, b⟩) = some n := by
  cases st with
  | cmd | dat => exact h
  | payload => cases h
  | _ => cases hlen

/-- R180: a controller that waits holds no unknown command. -/
theorem inboxOk_of_quiet {s : State} (h : s.quiet) : s.InboxOk := ofByte_isSome_of_awaits (awaits_isSome_of_waiting h)

end State

/-! The controller acts. -/

/-- R63, R144: no instruction changes the frame at the controller. -/
theorem exec_ram {i : Instr} {s t : State} (h : exec i s = .next t) : t.ctrl.ram = s.ctrl.ram := by
  have hhost {a : State} (hx : s.whenReady a = .next t) (ha : a.ctrl = s.ctrl) : t.ctrl.ram = s.ctrl.ram := by
    rw [State.whenReady_eq] at hx
    rw [← Host.Outcome.next.inj hx]
    split
    · rw [ha]
    · rfl
  cases i with
  | setpx x y g => exact hhost h (by simp)
  | clear | init | flush => exact hhost h rfl
  | _ => cases h; rfl

namespace State

/-- R88: the controller acts on what it has received; the frame stays where no data is stray. -/
theorem step_acts {s : State} (h : s.InboxOk) (hq : ¬ s.quiet) :
    ∃ r left, step s = .next ((s.setInbox left).ticked.setCtrl r) ∧ left <:+ s.inbox ∧ left.length < s.inbox.length ∧
      ∀ n, awaits 0 s.inbox = some n → awaits 0 left = some n ∧ r.ram = s.ctrl.ram := by
  have hread {n : Nat} (hn : awaits 0 s.inbox = some n) := (readStream_of_awaits hn).resolve_left hq
  cases hr : readStream s.inbox with
  | waiting => exact absurd hr hq
  | notACommand b => exact absurd hr (readStream_ne_notACommand h b)
  | command i rest =>
    obtain ⟨r, hx⟩ := exec_of_readStream hr (s.setInbox rest).ticked
    obtain ⟨hsuf, hlt⟩ := readStream_left (rest := rest) (by rw [hr]; rfl)
    refine ⟨r, rest, (stepRunsTheControllerCommand s i rest hr).trans hx, hsuf, hlt, fun n hn => ?_⟩
    obtain ⟨rest', hrest, hi⟩ := hread hn
    obtain rfl : rest = rest' := by simpa [hr] using hi
    exact ⟨hrest, exec_ram hx⟩
  | data bytes rest =>
    obtain ⟨hsuf, hlt⟩ := readStream_left (rest := rest) (by rw [hr]; rfl)
    have hstep : step s = .next ((s.setInbox rest).ticked.takeData bytes) := by simp only [step, nextAction, hr]
    rw [takeData_eq] at hstep
    refine ⟨_, rest, hstep, hsuf, hlt, fun n hn => ?_⟩
    obtain ⟨rest', -, hi⟩ := hread hn
    simp [hr] at hi
  | cutShort rest =>
    obtain ⟨hsuf, hlt⟩ := readStream_left (rest := rest) (by rw [hr]; rfl)
    have hstep : step s = .next (s.setInbox rest).ticked.regsUnknown := by simp only [step, nextAction, hr]
    refine ⟨_, rest, hstep, hsuf, hlt, fun n hn => ?_⟩
    obtain ⟨rest', hrest, hi⟩ := hread hn
    obtain rfl : rest = rest' := by simpa [hr] using hi
    exact ⟨hrest, rfl⟩

/-- The controller has acted until it waits, and the block has done nothing. -/
structure Settles (s t : State) : Prop where
  reaches : s.Reaches t
  quiet : t.quiet
  frame : t = { s with ctrl := t.ctrl, inbox := t.inbox, tick := t.tick }
  keeps : ∀ n, awaits 0 s.inbox = some n → awaits 0 t.inbox = some n ∧ t.ctrl.ram = s.ctrl.ram

theorem settles {s : State} (h : s.InboxOk) : ∃ t, s.Settles t := by
  induction hlen : s.inbox.length using Nat.strong_induction_on generalizing s with
  | _ len ih =>
    by_cases hq : s.quiet
    · exact ⟨s, .refl s, hq, rfl, fun n hn => ⟨hn, rfl⟩⟩
    · obtain ⟨r, left, hstep, hsuf, hlt, hkeep⟩ := step_acts h hq
      obtain ⟨t, hreach, hquiet, hframe, hkeeps⟩ :=
        ih left.length (hlen ▸ hlt) (s := (s.setInbox left).ticked.setCtrl r) (fun b hb => h b (hsuf.subset hb)) rfl
      refine ⟨t, (Reaches.of_step hstep).trans hreach, hquiet, by rw [hframe]; rfl, fun n hn => ?_⟩
      obtain ⟨hleft, hram⟩ := hkeep n hn
      obtain ⟨ht, hram'⟩ := hkeeps n hleft
      exact ⟨ht, hram'.trans hram⟩

/-! Steps one after the other, the controller waiting after each. -/

/-- `steps` have completed, and the controller waits; its frame is the old one where the steps only send commands. -/
structure Completes (s : State) (steps : List SeqStep) (t : State) : Prop where
  serves : s.Serves steps t
  quiet : t.quiet
  keeps : ∀ m n, awaits 0 s.inbox = some m → argsAfterSteps m steps = some n →
    awaits 0 t.inbox = some n ∧ t.ctrl.ram = s.ctrl.ram

theorem Completes.trans {s u t : State} {a b : List SeqStep} (hsu : s.Completes a u) (hut : u.Completes b t) :
    s.Completes (a ++ b) t where
  serves := hsu.serves.trans hut.serves
  quiet := hut.quiet
  keeps m n hm hn := by
    rw [argsAfterSteps_append] at hn
    obtain ⟨p, hp, hn⟩ := Option.bind_eq_some_iff.1 hn
    obtain ⟨hu, hram⟩ := hsu.keeps m p hm hp
    obtain ⟨ht, hram'⟩ := hut.keeps p n hu hn
    exact ⟨ht, hram'.trans hram⟩

theorem Serves.settles {s u t : State} {steps : List SeqStep} (h : s.Serves steps u) (ht : u.Settles t) : s.Serves steps t where
  reaches := h.reaches.trans ht.reaches
  writes := by rw [ht.frame]; exact h.writes
  delays := by rw [ht.frame]; exact h.delays
  stepPtr := by rw [ht.frame]; exact h.stepPtr
  levels := by rw [ht.frame]; exact h.levels
  trace := by rw [ht.frame]; exact h.trace
  coming := by rw [ht.frame]; exact h.coming
  frame := by rw [ht.frame, h.frame]

/-- A step that sends the controller nothing. -/
theorem Serves.completes_unseen {s t : State} {st : SeqStep} (h : s.Serves [st] t) (hq : s.quiet)
    (hst : ∀ m n, st.argsAfter m = some n → n = m) (hseen : t.ctrl = s.ctrl ∧ t.inbox = s.inbox) : s.Completes [st] t where
  serves := h
  quiet := quiet_of_inbox hseen.2 hq
  keeps m n hm hn := by
    rw [argsAfterSteps_singleton] at hn
    rw [hseen.1, hseen.2, hst m n hn]
    exact ⟨hm, rfl⟩

section
variable {s : State} {st : SeqStep} {rest : List SeqStep} {es : List Edge}

theorem Faces.completes_write (hf : s.Faces (st :: rest) es) (hq : s.quiet) (hlen : 0 < st.writeLen) :
    ∃ t, s.Completes [st] t := by
  obtain ⟨u, hsu, hctrl, hin⟩ := hf.serves_write hq hlen
  obtain ⟨t, ht⟩ := State.settles ((inboxOk_of_quiet hq).deliver hf.currentStep (List.prefix_refl _) hin)
  refine ⟨t, hsu.settles ht, ht.quiet, fun m n hm hn => ?_⟩
  rw [argsAfterSteps_singleton] at hn
  rw [← hctrl]
  refine ht.keeps n ?_
  rw [hin, awaits_append, hm, Option.bind_some, awaits_writeBytes s hlen hn]

theorem Faces.completes_instant (hf : s.Faces (st :: rest) es) (hq : s.quiet) (hi : st.instant = true) :
    ∃ t, s.Completes [st] t := by
  obtain ⟨t, hserves, hkeep, hvoid⟩ := hf.serves_instant hq hi
  by_cases hfall : s.rstLvl = true ∧ st = .rst false
  · refine ⟨t, hserves, quiet_of_inbox_nil (hvoid hfall), fun m n _ hn => ?_⟩
    rw [argsAfterSteps_singleton, hfall.2] at hn
    cases hn
  · refine ⟨t, hserves.completes_unseen hq (fun m n hn => ?_) (hkeep hfall)⟩
    cases st with
    | dc | swap => exact (Option.some.inj hn).symm
    | rst => cases hn
    | _ => cases hi

/-- R90: every step but DONE completes when it is served. -/
theorem Faces.completes_one (hf : s.Faces (st :: rest) es) (hq : s.quiet) (hdone : st ≠ .done) : ∃ t, s.Completes [st] t := by
  obtain hlen | hi | ⟨n, rfl⟩ | rfl := SeqStep.kinds (currentStep_wellFormed hf.currentStep)
  · exact hf.completes_write hq hlen
  · exact hf.completes_instant hq hi
  · obtain ⟨t, hserves, hseen⟩ := hf.serves_dly hq
    exact ⟨t, hserves.completes_unseen hq (fun m n hn => (Option.some.inj hn).symm) hseen⟩
  · exact absurd rfl hdone

theorem Faces.completes {steps : List SeqStep} (hf : s.Faces (steps ++ rest) es) (hq : s.quiet) (hdone : .done ∉ steps) :
    ∃ t, s.Completes steps t := by
  induction steps generalizing s with
  | nil => exact ⟨s, .refl hf.writes hf.delays, hq, fun m n hm hn => ⟨hm.trans hn, rfl⟩⟩
  | cons st steps ih =>
    rw [List.mem_cons, not_or] at hdone
    obtain ⟨hst, hsteps⟩ := hdone
    obtain ⟨u, hu⟩ := Faces.completes_one (rest := steps ++ rest) hf hq (Ne.symm hst)
    obtain ⟨t, ht⟩ := ih (hu.serves.faces (a := [st]) hf) hu.quiet hsteps
    exact ⟨t, hu.trans ht⟩

end

end State
end Machine
end Sys2Proof
end

section
/-! SUPPORT. Writes that fail (spec/60_exceptions.md R201 to R203): what the steps before the failing one leave, and what it adds. -/

namespace Sys2Proof

/-- R90, R91: the DC line stands at a write's level once its step has started; PAYLOAD counts on the steps before it. -/
theorem dcAfter_eq_writeDc {st : SeqStep} {dc : Bool} (hlen : 0 < st.writeLen) (hpayload : st = .payload → dc = true) :
    Machine.dcAfter dc st = st.writeDc := by
  cases st with
  | cmd | dat => rfl
  | payload => exact hpayload rfl
  | _ => cases hlen

namespace Machine

/-! The step lists up to a write. -/

/-- R37: DONE is only the last step. -/
theorem done_notMem_take {l : List SeqStep} (hl : l.IsChain SeqStep.Before) {k : Nat} (hk : k < l.length) : .done ∉ l.take k := by
  intro hmem
  obtain ⟨i, hi, hdone⟩ := List.mem_take_iff_getElem.1 hmem
  obtain ⟨hne, -⟩ := List.isChain_iff_getElem.1 hl i (by omega)
  exact hne hdone

/-- The levels at the start of step `k` of a list. -/
def levelsBefore (steps : List SeqStep) (l : Levels) (k : Nat) : Levels := (steps.take k).foldl Levels.after l

/-- R91, R105: PAYLOAD finds the buffers exchanged and the DC line at data. -/
def PayloadAfterSwap (steps : List SeqStep) : Prop :=
  ∀ (l : Levels) (k : Nat), steps[k]? = some .payload →
    (levelsBefore steps l k).front = l.front ^^^ 1#1 ∧ (levelsBefore steps l k).dc = true

/-- R29, R105: FRONT stays where no SWAP is. -/
theorem foldl_after_front {steps : List SeqStep} (h : .swap ∉ steps) (l : Levels) :
    (steps.foldl Levels.after l).front = l.front := by
  induction steps generalizing l with
  | nil => rfl
  | cons st steps ih =>
    rw [List.mem_cons, not_or] at h
    rw [List.foldl_cons, ih h.2]
    exact if_neg (Ne.symm h.1)

/-- R36, R91: RST_LVL stays where no RST is. -/
theorem foldl_after_rst {steps : List SeqStep} (h : ∀ v, .rst v ∉ steps) (l : Levels) :
    (steps.foldl Levels.after l).rst = l.rst := by
  induction steps generalizing l with
  | nil => rfl
  | cons st steps ih =>
    rw [List.foldl_cons, ih fun v hv => h v (List.mem_cons_of_mem st hv)]
    cases st with
    | rst v => exact absurd (List.mem_cons_self ..) (h v)
    | _ => rfl

/-- R105: where a sequence swaps once, FRONT tells whether that was. -/
theorem levelsBefore_front {a b : List SeqStep} (ha : .swap ∉ a) (hb : .swap ∉ b) (l : Levels) (k : Nat) :
    (levelsBefore (a ++ .swap :: b) l k).front = if a.length < k then l.front ^^^ 1#1 else l.front := by
  unfold levelsBefore
  split
  · next hk =>
    obtain ⟨j, rfl⟩ := Nat.exists_eq_add_of_lt hk
    rw [List.take_append, List.take_of_length_le (by omega), show a.length + j + 1 - a.length = j + 1 by omega,
      List.take_succ_cons, List.foldl_append, List.foldl_cons, foldl_after_front fun h => hb (List.mem_of_mem_take h)]
    exact congrArg (· ^^^ 1#1) (foldl_after_front ha l)
  · next hk =>
    rw [List.take_append_of_le_length (by omega)]
    exact foldl_after_front (fun h => ha (List.mem_of_mem_take h)) l

theorem eq_length_of_getElem?_eq_some {a b : List SeqStep} {st : SeqStep} (ha : st ∉ a) (hb : st ∉ b) {k : Nat}
    (h : (a ++ st :: b)[k]? = some st) : k = a.length := by
  rw [List.getElem?_append] at h
  split at h
  · exact absurd (List.mem_of_getElem? h) ha
  · next hk =>
    cases hj : k - a.length with
    | zero => omega
    | succ j =>
      rw [hj, List.getElem?_cons_succ] at h
      exact absurd (List.mem_of_getElem? h) hb

/-- R141: the frame's steps before SWAP. -/
def windowSteps (c : Config) : List SeqStep := (windowCommands c).flatMap commandSteps ++ [.dc true]

/-- R124: INIT's steps before SWAP. -/
def initWindowSteps (c : Config) : List SeqStep := resetPulse c ++ (registerProgramming c ++ windowSteps c)

theorem flushSequence_eq (c : Config) : flushSequence c = windowSteps c ++ [.swap, .payload, .done] := rfl

theorem initSequence_eq (c : Config) :
    initSequence c = initWindowSteps c ++ [.swap, .payload, .cmd 0xAF#8, .dly c.tOnSettle, .done] := rfl

/-- R91, R105: so it is in a list with one SWAP, the DC line at data before it, and PAYLOAD after it. -/
theorem payloadAfterSwap {a b : List SeqStep} (hswap : .swap ∉ a) (ha : .payload ∉ a) (hb : .payload ∉ b)
    (hdc : ∀ l, (a.foldl Levels.after l).dc = true) : PayloadAfterSwap (a ++ .swap :: .payload :: b) := by
  intro l k h
  rw [List.append_cons] at h ⊢
  obtain rfl := eq_length_of_getElem?_eq_some (by simpa using ha) hb h
  rw [levelsBefore, List.take_left, List.foldl_append]
  exact ⟨congrArg (· ^^^ 1#1) (foldl_after_front hswap l), hdc l⟩

section
variable (c : Config)

theorem windowSteps_plain : .swap ∉ windowSteps c ∧ .payload ∉ windowSteps c := by
  simp [windowSteps, windowCommands, commandSteps]

theorem initWindowSteps_plain : .swap ∉ initWindowSteps c ∧ .payload ∉ initWindowSteps c := by
  simp [initWindowSteps, windowSteps_plain, resetPulse, registerProgramming]

theorem payloadAfterSwap_flush : PayloadAfterSwap (flushSequence c) :=
  payloadAfterSwap (windowSteps_plain c).1 (windowSteps_plain c).2 (by simp) fun _ => rfl

theorem payloadAfterSwap_init : PayloadAfterSwap (initSequence c) :=
  payloadAfterSwap (initWindowSteps_plain c).1 (initWindowSteps_plain c).2 (by simp) fun l => by
    simp only [initWindowSteps, windowSteps, List.foldl_append]
    rfl

end

section
variable {c : Config} {k : Nat}

/-- R141: FLUSH exchanges the buffers at step 6 and leaves the reset line alone. -/
theorem flushSequence_levels (l : Levels) (hk : k < 8) :
    (levelsBefore (flushSequence c) l k).front = (if k = 7 then l.front ^^^ 1#1 else l.front) ∧
      (levelsBefore (flushSequence c) l k).rst = l.rst := by
  have hlen : (windowSteps c).length = 6 := rfl
  constructor
  · rw [flushSequence_eq, levelsBefore_front (windowSteps_plain c).1 (by simp), hlen]
    exact if_congr (by omega) rfl rfl
  · exact foldl_after_rst (fun v hv => by simpa [flushSequence, frameSteps] using List.mem_of_mem_take hv) l

/-- R124: INIT exchanges the buffers at step 31, and the reset pulse leaves the reset line high. -/
theorem initSequence_levels (l : Levels) (hlo : 5 ≤ k) (hhi : k < 34) :
    (levelsBefore (initSequence c) l k).front = (if k = 32 ∨ k = 33 then l.front ^^^ 1#1 else l.front) ∧
      (levelsBefore (initSequence c) l k).rst = true := by
  have hlen : (initWindowSteps c).length = 31 := rfl
  constructor
  · rw [initSequence_eq, levelsBefore_front (initWindowSteps_plain c).1 (by simp), hlen]
    exact if_congr (by omega) rfl rfl
  · have hpulse : (resetPulse c).length ≤ k := hlo
    rw [levelsBefore, initSequence, List.append_assoc, List.append_assoc, List.take_append, List.take_of_length_le hpulse,
      List.foldl_append, foldl_after_rst fun v hv => by simpa [registerProgramming, frameSteps] using List.mem_of_mem_take hv]
    rfl

/-- R141: FLUSH's writes are among its steps 0 to 7. -/
theorem flushSequence_write {st : SeqStep} (h : (flushSequence c)[k]? = some st) (hlen : 0 < st.writeLen) : k < 8 := by
  obtain ⟨hk, -⟩ := List.getElem?_eq_some_iff.1 h
  have hk : k < 9 := hk
  by_contra hlast
  obtain rfl : k = 8 := by omega
  cases h
  cases hlen

/-- R124: INIT's writes are among its steps 5 to 33. -/
theorem initSequence_write {st : SeqStep} (h : (initSequence c)[k]? = some st) (hlen : 0 < st.writeLen) : 5 ≤ k ∧ k < 34 := by
  obtain ⟨hk, -⟩ := List.getElem?_eq_some_iff.1 h
  have hk : k < 36 := hk
  by_contra hout
  have hcases : k < 5 ∨ k = 34 ∨ k = 35 := by omega
  obtain hpulse | rfl | rfl := hcases
  · have hpulse : k < (resetPulse c).length := hpulse
    rw [initSequence, List.append_assoc, List.append_assoc, List.getElem?_append_left hpulse] at h
    have hmem := List.mem_of_getElem? h
    simp only [resetPulse, List.mem_cons, List.not_mem_nil, or_false] at hmem
    obtain rfl | rfl | rfl | rfl | rfl := hmem <;> cases hlen
  · cases h; cases hlen
  · cases h; cases hlen

/-- R144: before the payload FLUSH sends commands only. -/
theorem flushSequence_argsAfter (hk : k < 7) (m : Nat) : (argsAfterSteps m ((flushSequence c).take (k + 1))).isSome = true := by
  interval_cases k <;> rfl

end

/-! The events up to the failing write. -/

/-- R13: only PAYLOAD's event depends on a buffer. -/
theorem stepTrace_congr {f g : List Byte} {st : SeqStep} (h : st = .payload → f = g) (rst dc ok : Bool) :
    stepTrace f rst dc ok st = stepTrace g rst dc ok st := by
  cases st with
  | payload => rw [h rfl]
  | _ => rfl

/-- R202: the events of a sequence that fails at step `k`, whose payload, if it comes to it, is buffer `b`. -/
theorem failedTrace_take (frame : BitVec 1 → List Byte) (b : BitVec 1) {steps : List SeqStep} {k : Nat} {st : SeqStep}
    (hst : steps[k]? = some st) (l : Levels)
    (hb : ∀ i, steps[i]? = some .payload → (levelsBefore steps l i).front = b) :
    failedTrace (frame b) st l.rst l.dc (steps.take k) = stepsTrace frame l (steps.take k) ++
      stepTrace (frame (levelsBefore steps l k).front) (levelsBefore steps l k).rst (levelsBefore steps l k).dc false st := by
  induction steps generalizing k l with
  | nil => cases hst
  | cons x steps ih =>
    cases k with
    | zero =>
      refine stepTrace_congr (fun hp => ?_) l.rst l.dc false
      exact congrArg frame (hb 0 (hst.trans (congrArg some hp))).symm
    | succ k =>
      have hx : stepTrace (frame b) l.rst l.dc true x = stepTrace (frame l.front) l.rst l.dc true x := by
        refine stepTrace_congr (fun hp => ?_) l.rst l.dc true
        exact congrArg frame (hb 0 (congrArg some hp)).symm
      have hrest := ih (k := k) hst (l.after x) fun i hi => hb (i + 1) hi
      rw [List.take_succ_cons, failedTrace, stepsTrace, List.append_assoc, hx]
      exact congrArg _ hrest

/-! The failing write. -/

namespace State

section
variable {s : State} {st : SeqStep} {es : List Edge}

/-- R164, R201: the transport answers failure, with no byte on offer or before it takes the one on offer. -/
theorem step_fails_write {n : Nat} (hq : s.quiet) (hst : s.currentStep = some st) (hw : s.wr.active = true)
    (hgap : s.wr.gap = false) (hcoming : s.coming = errEdge n :: es) :
    step s = .next (({ s with coming := es, tick := s.tick + 1 } : State).failWrite (errEdge n) st) := by
  have hoffer : s.wr.offer (errEdge n) s.stalled = s.wr := by simp [Writer.offer, hgap, errEdge, stillEdge]
  rw [step_writes hq hcoming rfl hst hw, writeEdge]
  split
  · simp only [offerByte, hoffer, hgap]
    rfl
  · rfl

/-- R201, R202: a step's write fails after any number of its bytes, and the controller acts on what it has received. -/
theorem fails_write {sent received : Nat} (hq : s.quiet) (hst : s.currentStep = some st) (hlen : 0 < st.writeLen)
    (hw : s.wr.active = false) (hd : s.dly.active = false) (hsent : sent ≤ st.writeLen)
    (hcoming : s.coming = bytesEdges sent ++ errEdge received :: es) :
    ∃ t, s.Reaches t ∧ t.quiet ∧ t.wr.active = false ∧
      t = { s with
        phase := .respond
        rsp := ⟨s.cur.op, true⟩
        dcLvl := dcAfter s.dcLvl st
        wr := t.wr
        ctrl := t.ctrl
        inbox := t.inbox
        coming := es
        tick := t.tick
        stalled := t.stalled
        trace := s.trace ++ stepTrace (s.frame s.front) s.rstLvl s.dcLvl false st } ∧
      ∀ m, awaits 0 s.inbox = some m → (st.argsAfter m).isSome = true → t.ctrl.ram = s.ctrl.ram := by
  obtain ⟨u, hreach, -, hu⟩ := reaches_bytes_sent hq hst hlen hw hd hsent hcoming
  have hend := step_fails_write (s := u) (st := st) (n := received) (by rw [hu]; exact hq) (by rw [hu]; exact hst) (by rw [hu])
    (by rw [hu]) (by rw [hu])
  have hbytes : u.writeBytes st = s.writeBytes st := writeBytes_congr (by rw [hu]) (by rw [hu]) st
  have hprefix : (s.writeBytes st).take received <+: s.writeBytes st := List.take_prefix ..
  rw [failWrite_eq] at hend
  obtain ⟨t, ht⟩ := State.settles (s := { u with
      trace := u.trace ++ [.wr u.wr.dc (u.writeBytes st) false]
      inbox := u.inbox ++ ((u.writeBytes st).take received).map (fun b => ⟨u.wr.dc, b⟩)
      wr := { u.wr with active := false }
      rsp := ⟨u.cur.op, true⟩
      phase := .respond
      coming := es
      tick := u.tick + 1 })
    ((inboxOk_of_quiet hq).deliver hst hprefix (by rw [hbytes, hu]))
  refine ⟨t, (hreach.snoc hend).trans ht.reaches, ht.quiet, by rw [ht.frame], ?_, fun m hm hn => ?_⟩
  · rw [ht.frame, stepTrace_write s false hlen, ← List.append_assoc, hbytes, hu]
  · obtain ⟨p, hp⟩ := Option.isSome_iff_exists.1 hn
    have hall := Option.isSome_of_eq_some (awaits_writeBytes s hlen hp)
    obtain ⟨n, hn⟩ := Option.isSome_iff_exists.1 (awaits_isSome_of_prefix (hprefix.map fun b => ⟨st.writeDc, b⟩) hall)
    obtain ⟨-, hram⟩ := ht.keeps n (by rw [hbytes, hu]; simp only [awaits_append, hm, Option.bind_some, hn])
    rw [hram, hu]

end

/-! A sequence that fails at step `k`. -/

/-- R132, R202: what a run leaves that starts a sequence and whose write at step `k` fails. -/
structure FailsAt (s : State) (k : Nat) (st : SeqStep) (rest : List Edge) (t : State) : Prop where
  reaches : s.Reaches t
  quiet : t.quiet
  stepPtr : t.stepPtr.toNat = k
  writes : t.wr.active = false
  delays : t.dly.active = false
  front : t.front = (levelsBefore s.sequence s.levels k).front
  rstLvl : t.rstLvl = (levelsBefore s.sequence s.levels k).rst
  dcLvl : t.dcLvl = st.writeDc
  coming : t.coming = rest
  trace : t.trace = s.trace ++ failedTrace (s.frame s.back) st s.rstLvl s.dcLvl (s.sequence.take k)
  frame : t = { s with
    phase := .respond
    rsp := ⟨s.cur.op, true⟩
    stepPtr := t.stepPtr
    front := t.front
    rstLvl := t.rstLvl
    dcLvl := t.dcLvl
    wr := t.wr
    dly := t.dly
    ctrl := t.ctrl
    inbox := t.inbox
    coming := t.coming
    tick := t.tick
    stalled := t.stalled
    trace := t.trace }
  ram : (∀ m, (argsAfterSteps m (s.sequence.take (k + 1))).isSome = true) → t.ctrl.ram = s.ctrl.ram

theorem sequence_chain (s : State) : s.sequence.IsChain SeqStep.Before := by
  unfold sequence
  cases s.phase with
  | initSeq => exact initSequence_chain s.cfg
  | flushSeq => exact flushSequence_chain s.cfg
  | _ => exact .nil

section
variable {s : State} {k : Nat} {st : SeqStep} (hq : s.quiet) (hw : s.wr.active = false) (hd : s.dly.active = false)
  (hptr : s.stepPtr = 0#6) (hst : s.sequence[k]? = some st)
include hq hw hd hptr hst

/-- R202: the steps before step `k` complete, and step `k` is the current one. -/
theorem completes_take {es : List Edge} (hcoming : s.coming = sequenceEdges (s.sequence.take k) ++ es) :
    ∃ u, s.Completes (s.sequence.take k) u ∧ u.stepPtr.toNat = k ∧ u.currentStep = some st ∧ u.coming = es := by
  obtain ⟨hk, -⟩ := List.getElem?_eq_some_iff.1 hst
  have hnext : s.sequence.take k ++ [] <+: s.sequence.drop s.stepPtr.toNat := by
    rw [hptr, List.append_nil]
    exact List.take_prefix k s.sequence
  have hf : s.Faces (s.sequence.take k ++ []) es := ⟨hw, hd, hnext, by rw [hcoming, List.append_nil]⟩
  obtain ⟨u, hu⟩ := hf.completes hq (done_notMem_take s.sequence_chain hk)
  have hat : u.stepPtr.toNat = k := by
    rw [hu.serves.stepPtr, hptr, List.length_take_of_le hk.le]
    exact Nat.zero_add k
  exact ⟨u, hu, hat, by rw [currentStep, hu.serves.sequence, hat, hst], (hu.serves.faces hf).coming⟩

/-- R202: the steps before step `k` complete (`completes_take`), and its write fails (`fails_write`). -/
theorem failsAt {sent received : Nat} {rest : List Edge} (hlen : 0 < st.writeLen) (hsent : sent ≤ st.writeLen)
    (hpayload : PayloadAfterSwap s.sequence)
    (hcoming : s.coming = sequenceEdges (s.sequence.take k) ++ bytesEdges sent ++ errEdge received :: rest) :
    ∃ t, s.FailsAt k st rest t := by
  rw [List.append_assoc] at hcoming
  obtain ⟨u, ⟨hserves, hquiet, hkeeps⟩, hat, hst', hcoming'⟩ := completes_take hq hw hd hptr hst hcoming
  obtain ⟨t, hreach, hquiet', hwr, ht, hram⟩ := fails_write hquiet hst' hlen hserves.writes hserves.delays hsent hcoming'
  have hlevels : u.levels = levelsBefore s.sequence s.levels k := hserves.levels
  have hdc : dcAfter u.dcLvl st = st.writeDc := by
    refine dcAfter_eq_writeDc hlen fun hp => ?_
    obtain ⟨-, hdata⟩ := hpayload s.levels k (hst.trans (congrArg some hp))
    exact (congrArg Levels.dc hlevels).trans hdata
  have htrace : t.trace = s.trace ++ failedTrace (s.frame s.back) st s.levels.rst s.levels.dc (s.sequence.take k) := by
    have hlast : t.trace = u.trace ++ stepTrace (s.frame u.levels.front) u.levels.rst u.levels.dc false st := by
      rw [ht, hserves.frame_eq]; rfl
    rw [failedTrace_take s.frame s.back hst s.levels fun i hi => (hpayload s.levels i hi).1, hlast, hserves.trace, hlevels,
      List.append_assoc]
  refine ⟨t, hserves.reaches.trans hreach, hquiet', ?_, hwr, ?_, ?_, ?_, ?_, ?_, htrace, ?_, fun hcmds => ?_⟩
  · rw [ht]; exact hat
  · rw [ht]; exact hserves.delays
  · rw [ht]; exact congrArg Levels.front hlevels
  · rw [ht]; exact congrArg Levels.rst hlevels
  · rw [ht]; exact hdc
  · rw [ht]
  · rw [ht, hserves.frame]
  · obtain ⟨m, hm⟩ := Option.isSome_iff_exists.1 (awaits_isSome_of_waiting hq)
    obtain ⟨n, hn⟩ := Option.isSome_iff_exists.1 (hcmds m)
    rw [List.take_add_one, hst, argsAfterSteps_append] at hn
    obtain ⟨p, hp, hlast⟩ := Option.bind_eq_some_iff.1 hn
    obtain ⟨hu, hkept⟩ := hkeeps m p hm hp
    exact (hram p hu (Option.isSome_of_eq_some ((argsAfterSteps_singleton p st).symm.trans hlast))).trans hkept

end

section
variable {s t : State} {k : Nat} {st : SeqStep} {rest : List Edge} (h : s.FailsAt k st rest t)
include h

theorem FailsAt.phase : t.phase = .respond := by rw [h.frame]

theorem FailsAt.rsp : t.rsp = ⟨s.cur.op, true⟩ := by rw [h.frame]

theorem FailsAt.mem : t.mem = s.mem := by rw [h.frame]

theorem FailsAt.initDone : t.initDone = s.initDone := by rw [h.frame]

end

end State

/-- Settles O53: one edge accepts the command, and the sequence fails at step `k` (`State.failsAt`); what the steps before it do to the
levels is read off the two step lists. -/
theorem failedFlushTogglesFrontOnlyAtThePayload : Obligations.FailedFlushTogglesFrontOnlyAtThePayload := by
  intro s w rest k sent received st hp hq hwr hdly hlen hsent
  refine ⟨fun hw hst hcoming => ?_, fun hw hst hcoming => ?_⟩
  · have hk := flushSequence_write hst hlen
    obtain ⟨t, h⟩ := State.failsAt (s := s.flushAccepted w
      (sequenceEdges ((flushSequence s.cfg).take k) ++ bytesEdges sent ++ errEdge received :: rest))
      hq hwr hdly rfl hst hlen hsent (payloadAfterSwap_flush s.cfg) rfl
    obtain ⟨n, hrun⟩ := (State.Reaches.of_step (step_accepts_flush hq hp hw hcoming)).trans h.reaches
    obtain ⟨hfront, hrst⟩ := flushSequence_levels (c := s.cfg) s.levels hk
    exact ⟨n, t, hrun, h.quiet, h.phase, h.rsp, h.stepPtr, h.front.trans hfront, h.mem, h.initDone, h.rstLvl.trans hrst, h.dcLvl,
      h.writes, h.delays, h.coming, h.trace, fun hne => h.ram (flushSequence_argsAfter (by omega))⟩
  · obtain ⟨hlo, hhi⟩ := initSequence_write hst hlen
    obtain ⟨t, h⟩ := State.failsAt (s := s.initAccepted w
      (sequenceEdges ((initSequence s.cfg).take k) ++ bytesEdges sent ++ errEdge received :: rest))
      hq hwr hdly rfl hst hlen hsent (payloadAfterSwap_init s.cfg) rfl
    obtain ⟨n, hrun⟩ := (State.Reaches.of_step (step_accepts_init hq hp hw hcoming)).trans h.reaches
    obtain ⟨hfront, hrst⟩ := initSequence_levels (c := s.cfg) s.levels hlo hhi
    exact ⟨n, t, hrun, h.quiet, h.phase, h.rsp, h.stepPtr, h.front.trans hfront, h.mem, h.initDone, h.rstLvl.trans hrst, h.dcLvl,
      h.writes, h.delays, h.coming, h.trace⟩

end Machine
end Sys2Proof
end

section
/-! SUPPORT. The serializer's edges (spec/43_byte_stream_serializer.md R161 to R165): a byte on offer, the port that shows it, the
answer after the last byte, and the answers that nothing waits for. -/

namespace Sys2Proof

/-- The edge with other answers from the transport and the delay provider. -/
def Edge.withAnswers (e : Edge) (valid err done : Bool) : Edge :=
  { e with txRespValid := valid, txRespErr := err, dlyDone := done }

end Sys2Proof

namespace Sys2Proof.Machine

theorem Writer.active_of_unsent {w : Writer} (h : w.unsent = true) : w.active = true := by
  simp only [unsent, Bool.and_eq_true] at h
  exact h.1

namespace State

/-! One edge with bytes unsent (R162). -/

section
variable {s : State} {e : Edge} {st : SeqStep}

/-- R162: a byte on offer is held until the transport takes it. -/
theorem offerByte_held (hgap : s.wr.gap = false) (hready : e.txReady = false) : s.offerByte e = s := by
  simp only [offerByte, Writer.offer, hgap, hready]
  rfl

/-- R162: the transport takes the byte on offer. -/
theorem offerByte_taken (hw : s.wr.active = true) (hgap : s.wr.gap = false) (hready : e.txReady = true) :
    s.offerByte e = { s with wr := ⟨true, s.wr.dc, s.wr.len, s.wr.pos + 1#14, leavesGap e 0⟩, stalled := 0 } := by
  simp only [offerByte, Writer.offer, hw, hgap, hready]
  rfl

/-- R162: no byte is on offer in a gap. -/
theorem offerByte_gap (hw : s.wr.active = true) (hgap : s.wr.gap = true) :
    s.offerByte e = { s with wr := ⟨true, s.wr.dc, s.wr.len, s.wr.pos, leavesGap e (s.stalled + 1)⟩,
                             stalled := s.stalled + 1 } := by
  simp only [offerByte, Writer.offer, hw, hgap]
  rfl

/-- R164, R165: with bytes unsent only an error response counts. -/
theorem writeEdge_offers (hunsent : s.wr.unsent = true) (hnoerr : e.txRespValid = false ∨ e.txRespErr = false) :
    s.writeEdge e st = s.offerByte e := by
  rw [writeEdge, if_pos hunsent, if_neg]
  rcases hnoerr with h | h <;> simp [h]

/-! One edge after the last byte (R163). -/

theorem writeEdge_waits (hsent : s.wr.unsent = false) (hvalid : e.txRespValid = false) : s.writeEdge e st = s := by
  simp [writeEdge, hsent, hvalid]

theorem writeEdge_completes (hsent : s.wr.unsent = false) (hvalid : e.txRespValid = true) (herr : e.txRespErr = false) :
    s.writeEdge e st = s.completeWrite st := by
  simp [writeEdge, hsent, hvalid, herr]

end

end State

/-- Settles O24: with bytes unsent and no error response the edge is the offer's (`State.writeEdge_offers`), which is held, taken, or
used up by a gap. -/
theorem offeredByteIsHeldUntilTaken : Obligations.OfferedByteIsHeldUntilTaken := by
  intro s e es st hq hcoming hn _ hst hw hunsent hnoerr
  have hstep : step s = .next (({ s with coming := es, tick := s.tick + 1 } : State).offerByte e) :=
    (step_writes hq hcoming hn hst hw).trans (congrArg Host.Outcome.next (State.writeEdge_offers hunsent hnoerr))
  refine ⟨fun hgap hready => ?_, fun hgap hready => ?_, fun hgap => ?_⟩
  · exact hstep.trans (congrArg Host.Outcome.next (State.offerByte_held hgap hready))
  · exact hstep.trans (congrArg Host.Outcome.next (State.offerByte_taken hw hgap hready))
  · exact hstep.trans (congrArg Host.Outcome.next (State.offerByte_gap hw hgap))

/-- Settles O27: after the last byte the edge waits (`State.writeEdge_waits`) or completes the write (`State.writeEdge_completes`). -/
theorem successfulWriteCompletesItsStep : Obligations.SuccessfulWriteCompletesItsStep := by
  intro s e es st hq hcoming hn _ hst hw hsent
  have hstep := step_writes hq hcoming hn hst hw
  refine ⟨fun hvalid => ?_, fun hvalid herr => ?_⟩
  · exact hstep.trans (congrArg Host.Outcome.next (State.writeEdge_waits hsent hvalid))
  · exact hstep.trans (congrArg Host.Outcome.next (State.writeEdge_completes hsent hvalid herr))

/-! The port (R161, R162). -/

/-- Settles O25: the write on offer is the current step's (`SequencerOk.writing`), so the byte at the port (O33) is one of that
step's bytes (`State.writeByte_eq`). -/
theorem portOffersTheWritesByte : Obligations.PortOffersTheWritesByte := by
  intro s rstN h hvalid
  obtain ⟨-, -, -, hdc, -, -, -, -, -, -, -, hoffer, hshow⟩ := portsFollowTheRegisters s rstN
  obtain ⟨-, hw, hlt, -⟩ := hoffer.1 hvalid
  obtain ⟨hdata, hlast⟩ := hshow hvalid
  obtain ⟨st, hst, -, hlen, hwdc, hline, -⟩ := h.writing hw
  refine ⟨st, hst, ?_, ?_, hdc.trans (hline.trans hwdc)⟩
  · rw [hdata st hst, State.writeByte_eq s st _ (hlen ▸ hlt)]
  · rw [hlast, State.writeBytes_length, hlen]

/-! The lines (R161). -/

/-- R161: a step drives its line only as it starts, before its write is in progress. -/
theorem EdgeDoes.lines_of_writing {e : Edge} {s t : State} {st : SeqStep} (hd : EdgeDoes e s st t) (hw : s.wr.active = true) :
    t.dcLvl = s.dcLvl ∧ t.rstLvl = s.rstLvl := by
  cases hd with
  | starts ha => rw [hw] at ha; cases ha
  | _ => simp

/-- Settles O29: only an edge of a sequence could drive a line (`StepDoes.lines`), and during a write it drives none
(`EdgeDoes.lines_of_writing`). -/
theorem linesHoldDuringAWrite : Obligations.LinesHoldDuringAWrite := by
  intro s t hw hn h
  rcases (step_does h).lines hn with ⟨hrst, hdc⟩ | ⟨st, -, hd⟩
  · exact ⟨hdc, hrst⟩
  · exact hd.lines_of_writing hw

/-! Answers that nothing waits for (R120, R165). -/

namespace State

section
variable {s : State} {e : Edge} {valid err done : Bool}

/-- R165: with bytes unsent, any two answers of the transport that are no error do the same. -/
theorem stepEdge_unsent_answers (hunsent : s.wr.unsent = true) (hnoerr : e.txRespValid = false ∨ e.txRespErr = false)
    (hnoerr' : valid = false ∨ err = false) (st : SeqStep) :
    s.stepEdge (e.withAnswers valid err e.dlyDone) st = s.stepEdge e st := by
  have hw := Writer.active_of_unsent hunsent
  rw [stepEdge_write hw, stepEdge_write hw, writeEdge_offers hunsent hnoerr, writeEdge_offers hunsent hnoerr']
  rfl

/-- R165: with no write in progress, the transport's answers do not count. -/
theorem stepEdge_no_write_answers (hw : s.wr.active = false) (st : SeqStep) :
    s.stepEdge (e.withAnswers valid err e.dlyDone) st = s.stepEdge e st := by
  simp only [stepEdge, if_neg (show ¬ s.wr.active = true by simp [hw])]
  rfl

/-- R120: with no delay outstanding, the delay provider's answer does not count. -/
theorem stepEdge_no_delay_answers (hd : s.dly.active = false) (st : SeqStep) :
    s.stepEdge (e.withAnswers e.txRespValid e.txRespErr done) st = s.stepEdge e st := by
  simp only [stepEdge, if_neg (show ¬ s.dly.active = true by simp [hd])]
  rfl

/-- R120, R165: the block looks at an answer only inside a step of a sequence. -/
theorem blockAction_answers_unseen
    (h : ∀ st, s.edgeTaken.stepEdge (e.withAnswers valid err done) st = s.edgeTaken.stepEdge e st) :
    s.blockAction (e.withAnswers valid err done) = s.blockAction e := by
  have hsequence : s.edgeTaken.sequenceEdge (e.withAnswers valid err done) = s.edgeTaken.sequenceEdge e := by
    simp only [sequenceEdge, h]
  simp only [blockAction, hsequence]
  rfl

end

end State

/-- R120, R165: answers that make no difference to a sequence's step make none to the machine's. -/
theorem step_answers_unseen {s : State} {e : Edge} {valid err done : Bool} (es : List Edge) (hq : s.quiet)
    (h : ∀ st, (s.setComing es).ticked.stepEdge (e.withAnswers valid err done) st = (s.setComing es).ticked.stepEdge e st) :
    step (s.setComing (e.withAnswers valid err done :: es)) = step (s.setComing (e :: es)) := by
  refine step_congr_of_quiet hq hq ?_
  exact (State.blockAction_answers_unseen (s := s.setComing (e.withAnswers valid err done :: es)) h).trans
    (State.blockAction_setComing s e _ e es)

/-- Settles O26: in each of the three states the sequence's step is the same with and without the answer, and so is the machine's
(`step_answers_unseen`). -/
theorem untimelyAnswersAreIgnored : Obligations.UntimelyAnswersAreIgnored := by
  intro s e es r d hq
  refine ⟨fun hunsent => ?_, fun hw => ?_, fun hd => ?_⟩
  · exact step_answers_unseen (e := { e with txRespValid := false, txRespErr := r }) es hq
      (State.stepEdge_unsent_answers hunsent (.inl rfl) (.inr rfl))
  · exact step_answers_unseen (e := { e with txRespValid := false, txRespErr := r }) es hq
      (State.stepEdge_no_write_answers hw)
  · exact step_answers_unseen es hq (State.stepEdge_no_delay_answers hd)

end Sys2Proof.Machine
end

section
/-! SUPPORT. The controller's commands (spec/44_controller_command_set.md): which register each one writes, at which steps it is sent,
and what can change the frame in the controller's RAM. -/

namespace Sys2Proof.Machine

/-! Where a step list has a step. -/

theorem getElem?_eq_some_iff_mem_idxsOf {l : List SeqStep} {st : SeqStep} {k : Nat} : l[k]? = some st ↔ k ∈ l.idxsOf st := by
  rw [List.getElem?_eq_some_iff, List.mem_idxsOf_iff_exists_getElem_pos]
  simp only [beq_iff_eq]

/-- A step that a list has once. -/
theorem getElem?_iff_of_idxsOf_singleton {l : List SeqStep} {st : SeqStep} {i : Nat} (h : l.idxsOf st = [i]) (k : Nat) :
    l[k]? = some st ↔ k = i := by
  rw [getElem?_eq_some_iff_mem_idxsOf, h, List.mem_singleton]

/-- A step that a list has twice. -/
theorem getElem?_iff_of_idxsOf_pair {l : List SeqStep} {st : SeqStep} {i j : Nat} (h : l.idxsOf st = [i, j]) (k : Nat) :
    l[k]? = some st ↔ k = i ∨ k = j := by
  rw [getElem?_eq_some_iff_mem_idxsOf, h, List.mem_pair]

/-! The registers. -/

namespace State

/-- R88: a command other than Write RAM writes its register and ends a RAM write (log entry 24). -/
theorem program_eq (s : State) (r : CtrlRegs) : s.program r = .next { s with ctrl := { r with ramOpen := false } } := rfl

end State

/-- Settles O54: each of the two programs its window (`State.program_eq`); INIT sends both twice, FLUSH once. -/
theorem windowCommandsProgramTheWindow : Obligations.WindowCommandsProgramTheWindow := fun s _ _ _ =>
  ⟨s.program_eq _, s.program_eq _, getElem?_iff_of_idxsOf_pair rfl, getElem?_iff_of_idxsOf_singleton rfl,
    getElem?_iff_of_idxsOf_pair rfl, getElem?_iff_of_idxsOf_singleton rfl, rfl, rfl, rfl, rfl, rfl, rfl⟩

/-- Settles O56: each of the five programs its register (`State.program_eq`), and INIT sends each once. -/
theorem setupCommandsProgramTheirRegister : Obligations.SetupCommandsProgramTheirRegister := fun s _ _ _ =>
  ⟨s.program_eq _, s.program_eq _, s.program_eq _, s.program_eq _, s.program_eq _,
    getElem?_iff_of_idxsOf_singleton rfl, rfl, getElem?_iff_of_idxsOf_singleton rfl, rfl,
    getElem?_iff_of_idxsOf_singleton rfl, rfl, getElem?_iff_of_idxsOf_singleton rfl, rfl,
    getElem?_iff_of_idxsOf_singleton rfl, rfl⟩

/-- Settles O57: each of the six programs the mode or the switch (`State.program_eq`); what is never sent is not among the command
bytes of the lists (`initSequence_cmdBytes`, `flushSequence_cmdBytes`). -/
theorem displayCommandsSelectModeAndSwitch : Obligations.DisplayCommandsSelectModeAndSwitch := by
  intro s c
  refine ⟨s.program_eq _, s.program_eq _, s.program_eq _, s.program_eq _, s.program_eq _, s.program_eq _,
    getElem?_iff_of_idxsOf_singleton rfl, getElem?_iff_of_idxsOf_singleton rfl, getElem?_iff_of_idxsOf_singleton rfl, rfl,
    fun b hb => ?_, fun b hb => ?_⟩
  · rw [SeqStep.cmd_mem_iff, initSequence_cmdBytes]
    rcases hb with rfl | rfl | rfl <;> decide
  · rw [SeqStep.cmd_mem_iff, flushSequence_cmdBytes]
    rcases hb with rfl | rfl | rfl | rfl | rfl | rfl <;> decide

/-- Settles O58: each of the two programs its pair (`State.program_eq`), and INIT sends each once. -/
theorem enhancementCommandsProgramTheirPair : Obligations.EnhancementCommandsProgramTheirPair := fun s _ _ _ =>
  ⟨s.program_eq _, s.program_eq _, getElem?_iff_of_idxsOf_singleton rfl, rfl, getElem?_iff_of_idxsOf_singleton rfl, rfl⟩

/-! The frame in the controller's RAM (R63, R144). -/

namespace State

section
variable {s : State} (bytes : List Byte)

theorem takeData_of_open (h : s.ctrl.ramOpen = true) : s.takeData bytes =
    { s with ctrl := { s.ctrl with ramFresh := false, ram := if s.ctrl.ramFresh = true then bytes else s.ctrl.ram ++ bytes } } := by
  rw [takeData_eq, if_pos h]
  rfl

/-- Log entry 7: data that no command asked for. -/
theorem takeData_of_closed (h : s.ctrl.ramOpen = false) : s.takeData bytes = s.regsUnknown := by
  rw [takeData_eq, if_neg (by simp [h])]
  rfl

end

/-- Log entry 6: of the two lines' levels, only a falling reset line reaches the frame. -/
theorem setRstLine_ram (s : State) (l : Bool) : (s.setRstLine l).ctrl.ram = s.ctrl.ram ∨ s.rstLvl = true ∧ l = false := by
  by_cases hfall : s.rstLvl = true ∧ l = false
  · exact .inr hfall
  · exact .inl (by rw [setRstLine_ctrl, if_neg hfall])

end State

/-- An edge of a sequence changes the frame only by a falling reset line. -/
theorem EdgeDoes.ram {e : Edge} {s t : State} {st : SeqStep} (hd : EdgeDoes e s st t) :
    t.ctrl.ram = s.ctrl.ram ∨ s.rstLvl = true ∧ t.rstLvl = false := by
  cases hd with
  | starts =>
    cases st with
    | rst l => simpa [State.startStep] using (s.paced e).setRstLine_ram l
    | _ => exact .inl (by simp [State.startStep])
  | _ => exact .inl (by simp)

/-- What can change the frame: data after Write RAM, a falling reset line, a reset that cuts a write off (I4). -/
theorem StepDoes.ram {s t : State} (hd : StepDoes s t) : t.ctrl.ram = s.ctrl.ram ∨
    (s.ctrl.ramOpen = true ∧ ∃ bytes rest, readStream s.inbox = .data bytes rest) ∨ (s.rstLvl = true ∧ t.rstLvl = false) ∨
      (s.edge.rstN = false ∧ s.wr.active = true) := by
  cases hd with
  | command i rest hr t hx => exact .inl (exec_ram hx :)
  | accept hq hn hp hv t hx => exact .inl (exec_ram hx :)
  | data bytes rest hr =>
    cases hopen : s.ctrl.ramOpen with
    | true => exact .inr (.inl ⟨rfl, bytes, rest, hr⟩)
    | false => exact .inl (by rw [State.takeData_of_closed (s := (s.setInbox rest).ticked) bytes hopen]; rfl)
  | reset hq hn =>
    cases hw : s.wr.active with
    | true => exact .inr (.inr (.inr ⟨hn, rfl⟩))
    | false => exact .inl (by simp [hw])
  | sequence hq hn hp st hc t hx => exact hx.ram.imp_right fun hfall => .inr (.inl hfall)
  | _ => exact .inl (by simp)

/-- Settles O55: the frame changes as `StepDoes.ram` says, and each list sends 0x5C once. -/
theorem writeRamOpensTheRam : Obligations.WriteRamOpensTheRam := by
  intro s c bytes
  refine ⟨rfl, State.takeData_of_open bytes, fun hclosed => ⟨_, State.takeData_of_closed bytes hclosed, rfl, rfl⟩,
    fun t h hne => (step_does h).ram.resolve_left hne,
    getElem?_iff_of_idxsOf_singleton rfl, getElem?_iff_of_idxsOf_singleton rfl⟩

end Sys2Proof.Machine
end

section
/-! SUPPORT. The failed write (spec/60_exceptions.md section 1, R164, R169, R201): the edge at which the transport answers an error,
with bytes unsent or after the last byte. -/

namespace Sys2Proof.Machine

/-- R164: an error response fails the write at any point.  Before the last byte the edge may also move the offer (R160), which keeps
the write's DC level. -/
theorem State.writeEdge_fails {s : State} {e : Edge} {st : SeqStep} (hvalid : e.txRespValid = true) (herr : e.txRespErr = true) :
    ∃ w n, w.dc = s.wr.dc ∧ s.writeEdge e st = ({ s with wr := w, stalled := n } : State).failWrite e st := by
  cases hunsent : s.wr.unsent with
  | true =>
    obtain ⟨-, hdc, -⟩ := offer_keeps s.wr e s.stalled
    exact ⟨(s.offerByte e).wr, (s.offerByte e).stalled, hdc, by simp only [writeEdge, hunsent, hvalid, herr]; rfl⟩
  | false => exact ⟨s.wr, s.stalled, rfl, by simp [writeEdge, hunsent, hvalid, herr]⟩

/-- Settles O28: the edge is the failed write's (`State.writeEdge_fails`), which changes what `State.failWrite_eq` says; its bytes and
its DC level are those of the write in progress. -/
theorem failedWriteRaisesTransportError : Obligations.FailedWriteRaisesTransportError := by
  intro s e es st hq hcoming hn _ hst hw hvalid herr
  have hstep := step_writes hq hcoming hn hst hw
  obtain ⟨w, n, hdc, hfails⟩ := State.writeEdge_fails (s := { s with coming := es, tick := s.tick + 1 }) (st := st) hvalid herr
  have hbytes : ({ s with coming := es, tick := s.tick + 1, wr := w, stalled := n } : State).writeBytes st = s.writeBytes st :=
    State.writeBytes_congr rfl rfl st
  rw [hfails, State.failWrite_eq, hbytes, hdc] at hstep
  exact ⟨_, hstep, rfl, rfl, rfl, rfl, rfl, rfl, rfl⟩

end Sys2Proof.Machine
end

section
/-! SUPPORT. The block reset and the fill that follows it (spec/70_reset_and_hazards.md R230 to R232): what an edge with `rst_n` = 0
leaves, and the run of the fill from CLR_IDX = 0 to IDLE. -/

namespace Sys2Proof.Machine

/-! An edge with `rst_n` = 0. -/

/-- R206: the reset adds the events of the lines it changes, and no response. -/
theorem State.rsp_notMem_resetRegisters_trace (s : State) (op : OpCode) (err : Bool) :
    Event.rsp op err ∉ s.resetRegisters.trace.drop s.trace.length := by
  rw [State.resetRegisters_trace, List.append_assoc, List.drop_left]
  cases s.rstLvl <;> cases s.dcLvl <;> simp

/-- R230: while `rst_n` = 0 the four handshake outputs are 0. -/
theorem State.ports_in_reset (s : State) : (s.ports false).cmdReady = false ∧ (s.ports false).rspValid = false ∧
    (s.ports false).txValid = false ∧ (s.ports false).dlyReq = false := ⟨rfl, rfl, rfl, rfl⟩

/-- Settles O34: the edge is `State.resetRegisters` (`step_reset`), whose laws give every register. -/
theorem resetOverridesEverything : Obligations.ResetOverridesEverything := by
  intro s e es hq hcoming hn
  obtain rfl := State.edge_of_coming hcoming
  refine ⟨_, step_reset hq hn, ⟨rfl, rfl, rfl, rfl, rfl, by simp, by simp, rfl, rfl, rfl, rfl⟩, by simp, by simp, ?_, fun hw => ?_,
    State.rsp_notMem_resetRegisters_trace s.edgeTaken, State.ports_in_reset⟩
  · rw [State.resetRegisters_coming, State.edgeTaken_eq hcoming]
  · simp [hw]

/-! The end of the fill. -/

/-- R230: only an edge of the fill ends it. -/
theorem step_ends_fill {s t : State} (hp : s.phase = .filling) (hstep : step s = .next t) (hidle : t.phase = .idle) :
    t = s.edgeTaken.fillEdge s.edge := by
  by_cases hq : s.quiet
  · cases hn : s.edge.rstN with
    | false =>
      obtain rfl := Host.Outcome.next.inj (hstep.symm.trans (step_reset hq hn))
      cases hidle
    | true => exact Host.Outcome.next.inj (hstep.symm.trans (step_filling hq hn hp))
  · obtain ⟨r, rest, rfl, -⟩ := (step_does hstep).of_not_quiet hq
    cases hp.symm.trans hidle

/-- R230: the edge that ends the fill zeroes the entries from CLR_IDX on; those below it read 0x00 already. -/
theorem State.FillOk.mem_of_ended {s : State} {e : Edge} (h : s.FillOk) (hm : s.MemoryOk) (hp : s.phase = .filling)
    (hidle : (s.fillEdge e).phase = .idle) : (s.fillEdge e).mem = [] := by
  have hwf : (s.fillEdge e).mem.wf = true := by
    rw [State.fillEdge_mem]
    exact Memory.wf_fill hm _ _ _
  have hlast : frameEntries ≤ s.clrIdx.toNat + s.pace e := by
    rcases State.fillEdge_cases hp e with ⟨-, hph, -⟩ | ⟨hle, -⟩
    · cases hph.symm.trans hidle
    · exact hle
  refine Memory.ext_read hwf rfl fun a => ?_
  rw [State.fillEdge_spec hm]
  split
  · rfl
  · have ha := a.isLt
    simp only [frameEntries] at *
    exact h.filled hp a (by omega)

/-- Settles O36: the step is an edge of the fill (`step_ends_fill`), its last (`State.FillOk.mem_of_ended`). -/
theorem fillEndsWithEveryEntryZero : Obligations.FillEndsWithEveryEntryZero := by
  intro s t hm hfill hp hstep hidle
  obtain rfl := step_ends_fill hp hstep hidle
  have htaken : s.edgeTaken.FillOk := hfill.congr rfl rfl rfl rfl rfl
  exact htaken.mem_of_ended hm hp hidle

/-! The run of the fill. -/

/-- R230: an edge of the fill that zeroes one entry.  The account of the entries is `State.FillOk`. -/
theorem State.fillEdge_one {s : State} {e : Edge} (hpace : s.pace e = 1) : s.fillEdge e =
    { s with mem := (s.fillEdge e).mem, clrIdx := s.clrIdx + 1#14,
             phase := if s.clrIdx.toNat + 1 = 16384 then .idle else s.phase, stalled := 0 } := by
  have hidx := s.clrIdx.isLt
  have hone : min 1 (frameEntries - s.clrIdx.toNat) = 1 := by
    simp only [frameEntries]
    omega
  have hlast : frameEntries ≤ s.clrIdx.toNat + 1 ↔ s.clrIdx.toNat + 1 = 16384 := by
    simp only [frameEntries]
    omega
  by_cases h : s.clrIdx.toNat + 1 = 16384 <;> simp only [State.fillEdge, State.paced, hpace, hone, hlast, h] <;> rfl

/-- R230: a step of the fill at one entry. -/
theorem step_fills_one {s : State} {es : List Edge} (hq : s.quiet) (hcoming : s.coming = goEdge :: es) (hp : s.phase = .filling) :
    ∃ t, step s = .next t ∧
      t = { s with mem := t.mem, clrIdx := s.clrIdx + 1#14, phase := if s.clrIdx.toNat + 1 = 16384 then .idle else .filling,
                   coming := es, tick := s.tick + 1, stalled := 0 } := by
  have hedge := State.edge_of_coming hcoming
  have hstep := step_filling hq (by rw [hedge]; rfl) hp
  have hpace : s.edgeTaken.pace goEdge = 1 := State.pace_of_work Nat.one_ne_zero
  rw [hedge] at hstep
  refine ⟨_, hstep, (State.fillEdge_one hpace).trans ?_⟩
  rw [State.edgeTaken_eq hcoming, hp]

/-- R230: a row of edges at one entry each that does not reach the last entry. -/
theorem runs_fills {n : Nat} {s : State} {rest : List Edge} (hq : s.quiet) (hcoming : s.coming = List.replicate n goEdge ++ rest)
    (hp : s.phase = .filling) (hidx : s.clrIdx = 0#14) (hn : n < 16384) :
    ∃ u, runs n s = .next u ∧
      u = { s with mem := u.mem, clrIdx := BitVec.ofNat 14 n, coming := rest, tick := s.tick + n, stalled := u.stalled } := by
  induction n generalizing rest with
  | zero => exact ⟨s, rfl, by rw [← hidx, ← show s.coming = rest from hcoming]; rfl⟩
  | succ n ih =>
    rw [List.replicate_succ', List.append_assoc] at hcoming
    obtain ⟨u, hrun, hu⟩ := ih hcoming (by omega)
    have hquiet : u.quiet := by rw [hu]; exact hq
    have hgo : u.coming = goEdge :: rest := by rw [hu]; rfl
    have hmore : u.clrIdx.toNat + 1 ≠ 16384 := by
      rw [hu, BitVec.toNat_ofNat, Nat.mod_eq_of_lt (by omega)]
      omega
    obtain ⟨t, hstep, ht⟩ := step_fills_one hquiet hgo (by rw [hu]; exact hp)
    rw [if_neg hmore] at ht
    refine ⟨t, runs_snoc hrun hstep, ?_⟩
    rw [ht, hu, hp, BitVec.ofNat_add]
    rfl

/-- Settles O37: all edges but one move CLR_IDX to the last entry (`runs_fills`), and the last ends the fill with every entry 0x00
(`fillEndsWithEveryEntryZero`), because the account that holds at CLR_IDX = 0 holds all along. -/
theorem fillRunsToIdle : Obligations.FillRunsToIdle := by
  intro s rest hp hidx hinbox hm hcoming
  have hq : s.quiet := by rw [State.quiet, hinbox]; rfl
  rw [show 16384 = 16383 + 1 from rfl, List.replicate_succ', List.append_assoc] at hcoming
  obtain ⟨u, hrun, hu⟩ := runs_fills hq hcoming hp hidx (by decide)
  have hphase : u.phase = .filling := by rw [hu]; exact hp
  have hlast : u.clrIdx = 16383#14 := by rw [hu]
  obtain ⟨hmemory, hfill⟩ : u.MemoryOk ∧ u.FillOk :=
    runs_keeps (P := fun v => v.MemoryOk ∧ v.FillOk)
      (fun v w ⟨hvm, hvf⟩ hstep => ⟨memoryStaysCanonical v w hvm hstep, fillsKeepTheirAccount v w hvm hvf hstep⟩)
      ⟨hm, .of_begun hidx⟩ hrun
  obtain ⟨t, hstep, ht⟩ := step_fills_one (by rw [hu]; exact hq) (by rw [hu]; rfl) hphase
  rw [hlast, if_pos (by decide)] at ht
  have hmem : t.mem = [] := fillEndsWithEveryEntryZero u t hmemory hfill hphase hstep (by rw [ht])
  rw [show 16384 = 16383 + 1 from rfl, runs_snoc hrun hstep, ht, hmem, hu, hidx]
  rfl

/-! The reset state. -/

/-- Settles O49: at reset no sequence runs and no port is busy, the fill has just begun, and nothing is listed or received. -/
theorem resetIsLegal : Obligations.ResetIsLegal where
  memory := rfl
  nibbles _ := entryOf_nibbles 0#4
  sequencer := .of_not_running (by simp [State.running, State.reset]) rfl rfl rfl (nomatch ·) (nomatch ·)
  fill := .of_begun rfl
  inbox _ hb := nomatch hb

end Sys2Proof.Machine
end
